-- ==== Sys2Proof/Word.lean ====
section
/-! DEFINITION. The word types of the block (spec/30_encoding.md R300, R301; spec/10_state.md R103, R140). -/

namespace Sys2Proof

/-- A command word CMD (R301). -/
abbrev CmdWord := BitVec 16

/-- The width of ARG, RESULT, levels, spectrum bins and microsecond times (R102, R103, R120, R121, R137). -/
abbrev Word32 := BitVec 32

/-- A glyph bitmap (spec/43_renderer.md R601). -/
abbrev GlyphBits := BitVec 35

/-- A character code (spec/43_renderer.md R602). -/
abbrev CharCode := BitVec 8

end Sys2Proof
end

