-- ==== Sys2Proof/Syntax.lean ====
section
/-! DEFINITION. The commands of the block: one constructor of `Instr` per row of spec/opcode_table.json
(spec/30_encoding.md R312). ARG is no field of a command: it stands in the port register (spec/10_state.md R102). -/

namespace Sys2Proof

/-- A logical channel (spec/10_state.md R113). -/
inductive Channel where
  | left
  | right
deriving DecidableEq, Repr

/-- The level select f of RD.LVL (spec/30_encoding.md R309). -/
inductive LevelSel where
  | raw
  | filtered
deriving DecidableEq, Repr

/-- A command, with the operand fields of its format (spec/30_encoding.md R303-R310). -/
inductive Instr where
  /-- NOP (spec/45_system.md R750). -/
  | nop
  /-- SMP.START (spec/40_sampler.md R400). -/
  | smpStart
  /-- SMP.NEXT (spec/40_sampler.md R401). -/
  | smpNext
  /-- LVL.RMS (spec/42_level.md R510). -/
  | lvlRms
  /-- LVL.FILT c (spec/42_level.md R511). -/
  | lvlFilt (c : Channel)
  /-- LVL.UPDATE (spec/42_level.md R512). -/
  | lvlUpdate
  /-- FFT.RUN (spec/41_spectral.md R450). -/
  | fftRun
  /-- DB.MAP cells (spec/42_level.md R513). -/
  | dbMap (cells : Nat)
  /-- RND.ACT t (spec/43_renderer.md R610). -/
  | rndAct (t : Nat)
  /-- RND.REF (spec/43_renderer.md R620). -/
  | rndRef
  /-- DBN.STEP bypass, pins (spec/44_debounce.md R700). -/
  | dbnStep (bypass pins : BitVec 3)
  /-- RD.STAT (spec/45_system.md R751). -/
  | rdStat
  /-- RD.SPEC k (spec/41_spectral.md R455). -/
  | rdSpec (k : Nat)
  /-- RD.LVL f, c (spec/42_level.md R514). -/
  | rdLvl (f : LevelSel) (c : Channel)
  /-- RD.CAP k (spec/40_sampler.md R402). -/
  | rdCap (k : Nat)
  /-- SYS.RESET (spec/45_system.md R752). -/
  | sysReset
  /-- SYS.HALT (spec/45_system.md R753). -/
  | sysHalt
deriving DecidableEq, Repr

end Sys2Proof
end

