-- ==== Sys2Proof/WellFormed.lean ====
section
/-! DEFINITION. Which commands an encoding can hold: each numeric operand fits the field of its format
(spec/30_encoding.md R305, R306, R308). The other operands fit by their types. -/

namespace Sys2Proof

/-- Every numeric operand fits its field: cells in 6 bits (R305), t in 4 bits (R306), k in 12 bits (R308). -/
def Instr.wellFormed : Instr → Bool
  | .nop | .smpStart | .smpNext | .lvlRms | .lvlFilt _ | .lvlUpdate | .fftRun => true
  | .dbMap cells => decide (cells < 64)
  | .rndAct t => decide (t < 16)
  | .rndRef | .dbnStep _ _ | .rdStat => true
  | .rdSpec k => decide (k < 4096)
  | .rdLvl _ _ => true
  | .rdCap k => decide (k < 4096)
  | .sysReset | .sysHalt => true

end Sys2Proof
end

