-- ==== Sys2Proof/Decode.lean ====
section
/-! DEFINITION. Decoding a command word, encoding a command, and the opcode map as data (spec/30_encoding.md
R301-R313). -/

namespace Sys2Proof

/-- Why a command word is illegal (R313); either way the block raises Fault(ILLEGAL_CMD). -/
inductive DecodeError where
  /-- R313(a): a reserved bit of the word's format is 1. -/
  | reservedBits
  /-- R313(b): OP = 0xF and sub is in 2..15. -/
  | reservedSub
deriving DecidableEq, Repr

/-- The field v[hi:lo], read as an unsigned number (spec/00_scope.md R10). -/
def CmdWord.field (v : CmdWord) (hi lo : Nat) : Nat := v.toNat / 2 ^ lo % 2 ^ (hi + 1 - lo)

/-- The channel a channel bit names (R304, R309). -/
def Channel.ofBit (b : Nat) : Channel := if b = 0 then .left else .right

/-- The bit that names a channel (spec/10_state.md R113). -/
def Channel.bit : Channel → Nat
  | .left => 0
  | .right => 1

/-- The level select a bit names (R309). -/
def LevelSel.ofBit (b : Nat) : LevelSel := if b = 0 then .raw else .filtered

/-- The bit of a level select (R309). -/
def LevelSel.bit : LevelSel → Nat
  | .raw => 0
  | .filtered => 1

/-- The command, if the reserved bits CMD[11:lo] are 0 (R302, R312). -/
def reservedAbove (w : CmdWord) (lo : Nat) (i : Instr) : Except DecodeError Instr :=
  if w.field 11 lo = 0 then .ok i else .error .reservedBits

/-- Format S (R310): sub = 0 and sub = 1 are assigned. -/
def decodeSystem (w : CmdWord) : Except DecodeError Instr :=
  if w.field 11 4 = 0 then
    match w.field 3 0 with
    | 0 => .ok .sysReset
    | 1 => .ok .sysHalt
    | _ => .error .reservedSub
  else .error .reservedBits

/-- The command a word means, or why it is illegal: by OP = CMD[15:12], then by the format of the row (R302, R312). -/
def decode (w : CmdWord) : Except DecodeError Instr :=
  match w.field 15 12 with
  | 0x0 => reservedAbove w 0 .nop
  | 0x1 => reservedAbove w 0 .smpStart
  | 0x2 => reservedAbove w 0 .smpNext
  | 0x3 => reservedAbove w 0 .lvlRms
  | 0x4 => reservedAbove w 1 (.lvlFilt (.ofBit (w.field 0 0)))
  | 0x5 => reservedAbove w 0 .lvlUpdate
  | 0x6 => reservedAbove w 0 .fftRun
  | 0x7 => reservedAbove w 6 (.dbMap (w.field 5 0))
  | 0x8 => reservedAbove w 4 (.rndAct (w.field 3 0))
  | 0x9 => reservedAbove w 0 .rndRef
  | 0xA => reservedAbove w 6 (.dbnStep (.ofNat 3 (w.field 5 3)) (.ofNat 3 (w.field 2 0)))
  | 0xB => reservedAbove w 0 .rdStat
  | 0xC => .ok (.rdSpec (w.field 11 0))
  | 0xD => reservedAbove w 2 (.rdLvl (.ofBit (w.field 1 1)) (.ofBit (w.field 0 0)))
  | 0xE => .ok (.rdCap (w.field 11 0))
  | _ => decodeSystem w

/-- The value of a command word: OP in CMD[15:12] and the operand fields below it (R303-R312, R317). -/
def Instr.wordValue : Instr → Nat
  | .nop => 0x0000
  | .smpStart => 0x1000
  | .smpNext => 0x2000
  | .lvlRms => 0x3000
  | .lvlFilt c => 0x4000 + c.bit
  | .lvlUpdate => 0x5000
  | .fftRun => 0x6000
  | .dbMap cells => 0x7000 + cells
  | .rndAct t => 0x8000 + t
  | .rndRef => 0x9000
  | .dbnStep bypass pins => 0xA000 + bypass.toNat * 8 + pins.toNat
  | .rdStat => 0xB000
  | .rdSpec k => 0xC000 + k
  | .rdLvl f c => 0xD000 + f.bit * 2 + c.bit
  | .rdCap k => 0xE000 + k
  | .sysReset => 0xF000
  | .sysHalt => 0xF001

/-- The word of a well-formed command. -/
def encode (i : Instr) : CmdWord := .ofNat 16 i.wordValue

/-- The bits CMD[11:0] that the format of an opcode does not assign (R303-R310); format S is OP = 0xF. -/
def reservedMask (op : Nat) : CmdWord :=
  match op with
  | 0x4 => 0x0FFE
  | 0x7 => 0x0FC0
  | 0x8 => 0x0FF0
  | 0xA => 0x0FC0
  | 0xC => 0x0000
  | 0xD => 0x0FFC
  | 0xE => 0x0000
  | 0xF => 0x0FF0
  | _ => 0x0FFF

/-- A row of the opcode map (R312): a word is the row's command when `word &&& mask = pattern`. -/
structure OpcodeRow where
  mnemonic : String
  pattern : CmdWord
  mask : CmdWord
deriving DecidableEq, Repr

/-- The row matches a word (R313). -/
def OpcodeRow.matchesWord (r : OpcodeRow) (w : CmdWord) : Bool := w &&& r.mask == r.pattern

/-- The opcode map of R312, columns mnemonic, match and mask. -/
def opcodeMap : List OpcodeRow :=
  [⟨"NOP", 0x0000, 0xFFFF⟩, ⟨"SMP.START", 0x1000, 0xFFFF⟩, ⟨"SMP.NEXT", 0x2000, 0xFFFF⟩, ⟨"LVL.RMS", 0x3000, 0xFFFF⟩,
   ⟨"LVL.FILT", 0x4000, 0xFFFE⟩, ⟨"LVL.UPDATE", 0x5000, 0xFFFF⟩] ++
  [⟨"FFT.RUN", 0x6000, 0xFFFF⟩, ⟨"DB.MAP", 0x7000, 0xFFC0⟩, ⟨"RND.ACT", 0x8000, 0xFFF0⟩, ⟨"RND.REF", 0x9000, 0xFFFF⟩,
   ⟨"DBN.STEP", 0xA000, 0xFFC0⟩, ⟨"RD.STAT", 0xB000, 0xFFFF⟩] ++
  [⟨"RD.SPEC", 0xC000, 0xF000⟩, ⟨"RD.LVL", 0xD000, 0xFFFC⟩, ⟨"RD.CAP", 0xE000, 0xF000⟩, ⟨"SYS.RESET", 0xF000, 0xFFFF⟩,
   ⟨"SYS.HALT", 0xF001, 0xFFFF⟩]

/-- The command the decoder reads from a word numbered as spec/opcode_table.json numbers it: one 16-bit word. -/
def decodeTableWord (nbits w : Nat) : Option Instr :=
  if nbits ≤ 16 ∧ w < 2 ^ 16 then (decode (.ofNat 16 w)).toOption else none

end Sys2Proof
end

