-- ==== Sys2Proof/Config.lean ====
section
/-! DEFINITION. The parameters of the block (spec/00_scope.md R8), which the model takes as arguments: a value of
`Params` stands in every State and no step changes it. Constants of R8, the constraints of R8, the reference
configuration REF, and the free values (functions the spec leaves open). -/

namespace Sys2Proof

/-- A pair {left, right}, one value per channel. -/
structure Stereo (α : Type) where
  left : α
  right : α
deriving DecidableEq, Repr

/-- LPF_ROUND (R8, spec/42_level.md R501). -/
inductive LpfRound where
  | away
  | trunc
deriving DecidableEq, Repr

/-- HARROW_DIR (R8, spec/43_renderer.md R624). -/
inductive HarrowDir where
  | ltr
  | rtl
deriving DecidableEq, Repr

/-- RENDER_TICK (R8): which tick flag gates RND.REF, a host duty (spec/60_exceptions.md R832); no step reads
it, only the premise of Machine/Duties.lean. -/
inductive RenderTick where
  | ms10
  | ms50
deriving DecidableEq, Repr

/-- FFT_MAG (R8): the reference instance of spec/41_spectral.md R453, or any other instance, known by a number only. -/
inductive FftMag where
  | reference
  | unknown (id : Nat)
deriving DecidableEq, Repr

/-- SMOOTH (R8): the pass disabled, or any other instance of spec/41_spectral.md R454, known by a number only. -/
inductive Smooth where
  | identity
  | unknown (id : Nat)
deriving DecidableEq, Repr

/-- GLYPH_PAT (R8): the bitmaps of the four glyph sets, slot 0 first (spec/43_renderer.md R603). -/
structure GlyphPats where
  fftSet : List GlyphBits
  vulUpper : List GlyphBits
  vulLower : List GlyphBits
  harrowSet : List GlyphBits
deriving DecidableEq, Repr

/-- PHASE_LEN[0..3] (R8): refreshes per VU_LINES phase. -/
structure PhaseLens where
  blankA : Nat
  drawLeft : Nat
  blankB : Nat
  drawRight : Nat
deriving DecidableEq, Repr

/-- The parameters of R8. N is held as its logarithm, so it is a power of two by form. -/
structure Params where
  /-- log2 of N, the capture length. -/
  log2N : Nat
  /-- SW, the sample width in bits. -/
  sw : Nat
  /-- MIDSCALE. -/
  midscale : Int
  /-- FFT_MAG. -/
  fftMag : FftMag
  /-- SMOOTH. -/
  smooth : Smooth
  /-- W[0], W[1]. -/
  weight : Stereo Nat
  /-- LPF_ROUND. -/
  lpfRound : LpfRound
  /-- DBT, T entries. -/
  dbt : List Word32
  /-- GLYPH_PAT. -/
  glyphs : GlyphPats
  /-- GLYPH_CODE(0..6), slot 0 first. -/
  glyphCodes : List CharCode
  /-- SPACE_CODE. -/
  spaceCode : CharCode
  /-- DISP_ROWS. -/
  dispRows : Nat
  /-- DISP_COLS. -/
  dispCols : Nat
  /-- METER_ROW. -/
  meterRow : Nat
  /-- METER_COL0. -/
  meterCol0 : Nat
  /-- HARROW_DIR. -/
  harrowDir : HarrowDir
  /-- PHASE_LEN[0..3]. -/
  phaseLen : PhaseLens
  /-- DEBOUNCE_TIMEOUT, microseconds. -/
  debounceTimeout : Word32
  /-- DIAG_TEXT. -/
  diagText : List CharCode
  /-- RENDER_TICK. -/
  renderTick : RenderTick
deriving DecidableEq, Repr

/-- CELLSET (R8): the supported cell counts of the dB map. -/
def Config.cellSet : List Nat := [50, 10, 7]

/-- LPF_SCALE (R8). -/
def Config.lpfScale : Nat := 1000

/-- GLYPH_SLOTS (R8): the custom glyph slots of the display. -/
def Config.glyphSlots : Nat := 7

/-- FREE VALUE (log 9). An instance of FFT_MAG other than the reference one: for the instance's number and the N
captured samples, the magnitude at each bin. Spec/41_spectral.md R452: a total function of the samples alone, with one
natural number per bin; a model must not assume any other property. -/
opaque Config.unknownFftMag : Nat → List Int → Nat → Nat

/-- FREE VALUE (log 11). An instance of SMOOTH other than the identity: for the instance's number and the magnitudes
before the pass, the magnitude at each bin from 1 on (spec/41_spectral.md R454). -/
opaque Config.unknownSmooth : Nat → List Nat → Nat → Nat

/-- The constraints of R8 on N, SW and MIDSCALE. -/
abbrev Params.CaptureValid (p : Params) : Prop :=
  3 ≤ p.log2N ∧ p.log2N ≤ 12 ∧ 2 ≤ p.sw ∧ p.sw ≤ 16 ∧ p.midscale.natAbs ≤ 2 ^ (p.sw - 1)

/-- The constraints of R8 on W and DBT. -/
abbrev Params.LevelValid (p : Params) : Prop :=
  (1 ≤ p.weight.left ∧ p.weight.left ≤ 999) ∧ (1 ≤ p.weight.right ∧ p.weight.right ≤ 999) ∧
    50 ≤ p.dbt.length ∧ p.dbt.Pairwise fun a b => b.toNat ≤ a.toNat

/-- The sizes of the glyph sets (spec/43_renderer.md R603) and the constraint of R8 on GLYPH_CODE. -/
abbrev Params.GlyphValid (p : Params) : Prop :=
  p.glyphs.fftSet.length = 7 ∧ p.glyphs.vulUpper.length = 5 ∧ p.glyphs.vulLower.length = 5 ∧
    p.glyphs.harrowSet.length = 3 ∧ p.glyphCodes.length = 7 ∧ p.glyphCodes.Nodup

/-- The constraints of R8 on the display geometry, the phase lengths and the diagnostic text. -/
abbrev Params.DisplayValid (p : Params) : Prop :=
  p.meterCol0 + 10 ≤ p.dispCols ∧ p.meterRow < p.dispRows ∧
    (1 ≤ p.phaseLen.blankA ∧ p.phaseLen.blankA ≤ 255) ∧ (1 ≤ p.phaseLen.drawLeft ∧ p.phaseLen.drawLeft ≤ 255) ∧
    (1 ≤ p.phaseLen.blankB ∧ p.phaseLen.blankB ≤ 255) ∧ (1 ≤ p.phaseLen.drawRight ∧ p.phaseLen.drawRight ≤ 255) ∧
    p.diagText.length ≤ p.dispCols

/-- Every constraint of R8. -/
abbrev Params.Valid (p : Params) : Prop :=
  p.CaptureValid ∧ p.LevelValid ∧ p.GlyphValid ∧ p.DisplayValid

/-- The REF dB table: DBT[i] = floor(512 * 10^(-i/20)) for i = 0..49 (spec/95_test_vectors.md section 1). -/
def Config.refDbt : List Word32 :=
  [512, 456, 406, 362, 323, 287, 256, 228, 203, 181] ++ [161, 144, 128, 114, 102, 91, 81, 72, 64, 57] ++
  [51, 45, 40, 36, 32, 28, 25, 22, 20, 18] ++ [16, 14, 12, 11, 10, 9, 8, 7, 6, 5] ++ [5, 4, 4, 3, 3, 2, 2, 2, 2, 1]

/-- The REF glyph bitmaps (spec/43_renderer.md R603). -/
def Config.refGlyphs : GlyphPats where
  fftSet := [0x00000001F, 0x0000003FF, 0x000007FFF, 0x0000FFFFF, 0x001FFFFFF, 0x03FFFFFFF, 0x7FFFFFFFF]
  vulUpper := [0x421000000, 0x631800000, 0x739C00000, 0x7BDE00000, 0x7FFF00000]
  vulLower := [0x000004210, 0x000006318, 0x00000739C, 0x000007BDE, 0x000007FFF]
  harrowSet := [0x0000063D8, 0x63D800000, 0x63D8063D8]

/-- The reference configuration REF (the column REF of R8). -/
def Params.ref : Params where
  log2N := 6
  sw := 16
  midscale := 512
  fftMag := .reference
  smooth := .identity
  weight := ⟨3, 3⟩
  lpfRound := .away
  dbt := Config.refDbt
  glyphs := Config.refGlyphs
  glyphCodes := [0, 1, 2, 3, 4, 5, 6]
  spaceCode := 0x20
  dispRows := 2
  dispCols := 20
  meterRow := 1
  meterCol0 := 0
  harrowDir := .ltr
  phaseLen := ⟨1, 4, 1, 4⟩
  debounceTimeout := 50000
  diagText := [0x46, 0x41, 0x54, 0x41, 0x4C]
  renderTick := .ms50

end Sys2Proof
end

