-- ==== Sys2Proof/Machine/Sizes.lean ====
section
/-! DEFINITION. The sizes derived from the parameters (spec/00_scope.md R9) and the accessors of a per-channel pair. -/

namespace Sys2Proof

/-- The value of a channel. -/
def Stereo.get {α : Type} (p : Stereo α) : Channel → α
  | .left => p.left
  | .right => p.right

/-- The pair with the value of a channel replaced. -/
def Stereo.set {α : Type} (p : Stereo α) (c : Channel) (v : α) : Stereo α :=
  match c with
  | .left => { p with left := v }
  | .right => { p with right := v }

/-- N, the capture length (R8). -/
def Params.captureLen (p : Params) : Nat := 2 ^ p.log2N

/-- NBIN = N/2, the bins of SPEC (R9). -/
def Params.binCount (p : Params) : Nat := p.captureLen / 2

/-- ALPHA_M[c] = floor(LPF_SCALE * W[c] / (W[c] + 1)) (R9, spec/10_state.md R123). -/
def Params.alpha (p : Params) (c : Channel) : Nat :=
  Config.lpfScale * p.weight.get c / (p.weight.get c + 1)

/-- FFTV_CELLS = min(floor(NBIN / 3), DISP_COLS - METER_COL0) (R9). -/
def Params.fftCells (p : Params) : Nat := min (p.binCount / 3) (p.dispCols - p.meterCol0)

/-- VUL_CELLS (R9). -/
def vulCells : Nat := 10

/-- HARROW_CELLS (R9). -/
def harrowCells : Nat := 10

/-- The values an SW-bit two's-complement sample can have (spec/40_sampler.md R422). -/
abbrev Params.SampleInRange (p : Params) (v : Int) : Prop :=
  -(2 ^ (p.sw - 1) : Int) ≤ v ∧ v < (2 ^ (p.sw - 1) : Int)

end Sys2Proof
end

