-- ==== Sys2Proof/Machine/State.lean ====
section
/-! DEFINITION. The state of the block as plain data (spec/10_state.md), the reasons a step can stop, and the state
after reset (R147). -/

namespace Sys2Proof.Machine

/-- MODE (R106). The value 3, never held, is no value of the type. -/
inductive Mode where
  | run
  | faulted
  | halted
deriving DecidableEq, Repr

/-- FCODE (R107, spec/60_exceptions.md R801). The reserved codes, never recorded, are no values of the type. -/
inductive FaultCode where
  | none
  | illegalCmd
  | busyViolation
  | notActive
  | fatalHalt
  | fatalSpurious
deriving DecidableEq, Repr

/-- The fault outcome of a run: MODE, FCODE and FCMD as they are when MODE is not RUN (spec/60_exceptions.md R818). -/
structure FaultOutcome where
  mode : Mode
  fcode : FaultCode
  fcmd : CmdWord
deriving DecidableEq, Repr

/-- METER (R130, spec/43_renderer.md R600). The value 3, never held, is no value of the type. -/
inductive Meter where
  | fftVertical
  | vuLines
  | vuHarrow
deriving DecidableEq, Repr

/-- VPH, the phase of the VU_LINES state machine (R132). -/
inductive Phase where
  | blankA
  | drawLeft
  | blankB
  | drawRight
deriving DecidableEq, Repr

/-- The three buttons, b = 0, 1, 2 (R134). -/
inductive Button where
  | up
  | down
  | select
deriving DecidableEq, Repr

/-- The debounce registers of one button (R135-R139). -/
structure Debouncer where
  /-- STABLE[b] (R135): 1 is pressed. -/
  stable : Bool
  /-- ARMED[b] (R136). -/
  armed : Bool
  /-- TS[b] (R137). -/
  ts : Word32
  /-- TO_RISE[b] (R138). -/
  toRise : Word32
  /-- TO_FALL[b] (R138). -/
  toFall : Word32
  /-- LASTOUT[b] (R139). -/
  lastOut : Bool
deriving DecidableEq, Repr

/-- The three debounce instances (R134). -/
structure Buttons where
  up : Debouncer
  down : Debouncer
  select : Debouncer
deriving DecidableEq, Repr

/-- The writable index spaces of the block (spec/20_memory.md R200), one list entry per index. -/
structure Memory where
  /-- CAPBUF (R110): signed samples. -/
  capbuf : List Int
  /-- SPEC (R120): unsigned magnitudes. -/
  spec : List Word32
deriving DecidableEq, Repr

/-- A display operation (R140). -/
inductive DisplayOp where
  | clear
  | cursor (row col : Nat)
  | char (code : CharCode)
  | glyph (slot : Nat) (pattern : GlyphBits)
deriving DecidableEq, Repr

/-- A move of one of the four agents (R100): a command transaction of the host (spec/30_encoding.md R300), a sample
event (spec/40_sampler.md R421), the spurious-interrupt event (spec/60_exceptions.md R812), an assertion of RST_N
(spec/70_reset_and_hazards.md R900). -/
inductive Input where
  | command (cmd : CmdWord) (arg : Word32)
  | sample (v : Int)
  | spurious
  | resetAsserted
deriving DecidableEq, Repr

/-- Why a step ends the run. -/
inductive Fault where
  /-- Raised by a sample event with BUSY = 1 and IDX ≥ N, and by nothing else. R114 rules such states out and no run
  reaches one; the spec gives no effect ("No event writes CAPBUF[N] or beyond", spec/40_sampler.md R421). Safe (log 7). -/
  | captureIndexOutOfRange
deriving DecidableEq, Repr

/-- Why a step has no meaning. -/
inductive Refusal where
  /-- For an arm of exec that has no meaning yet. No arm is refused, so nothing raises it. Safe. -/
  | notModelled (mnemonic : String)
deriving DecidableEq, Repr

/-- The state of the block (R101-R140), the parameters (spec/00_scope.md R8) and the agents' moves to come. -/
structure State where
  /-- MODEL'S OWN (log 1): the parameters of R8; no step changes them. -/
  params : Params
  /-- CMD (R101), the command word of the transaction in flight; 0 when there is none (log 4). -/
  cmd : CmdWord
  /-- ARG (R102), the operand of the transaction in flight; 0 when there is none (log 4). -/
  arg : Word32
  /-- RESULT (R103). -/
  result : Word32
  /-- MODE (R106). -/
  mode : Mode
  /-- FCODE (R107). -/
  fcode : FaultCode
  /-- FCMD (R108). -/
  fcmd : CmdWord
  /-- CAPBUF and SPEC (R110, R120). -/
  mem : Memory
  /-- BUSY (R111). -/
  busy : Bool
  /-- IDX (R112). -/
  idx : BitVec 13
  /-- CH (R113). -/
  ch : Channel
  /-- LEVEL (R121). -/
  level : Stereo Word32
  /-- LPF (R122). -/
  lpf : Stereo Word32
  /-- ALPHA_M (R123). -/
  alphaM : Stereo (BitVec 10)
  /-- METER (R130). -/
  meter : Meter
  /-- ACTIVE (R131). -/
  active : Bool
  /-- VPH (R132). -/
  vph : Phase
  /-- VCNT (R133). -/
  vcnt : BitVec 8
  /-- The debounce registers (R134-R139). -/
  buttons : Buttons
  /-- DOUT (R140), oldest operation first. -/
  dout : List DisplayOp
  /-- MODEL'S OWN (log 8): the fault outcomes of the runs before this one, oldest first (spec/60_exceptions.md R818). -/
  endedRuns : List FaultOutcome
  /-- MODEL'S OWN (log 2): the moves the agents will make, the next one first. -/
  pending : List Input
deriving DecidableEq, Repr

/-- The debounce registers of a button after reset (R147). -/
def Debouncer.reset (p : Params) : Debouncer where
  stable := false
  armed := false
  ts := 0
  toRise := p.debounceTimeout
  toFall := p.debounceTimeout
  lastOut := false

/-- The index spaces after reset (R147): all zeros. -/
def Memory.reset (p : Params) : Memory where
  capbuf := List.replicate p.captureLen 0
  spec := List.replicate p.binCount 0

/-- Every register at its reset value (R147, spec/70_reset_and_hazards.md R901), for the parameters p. -/
def State.resetWith (p : Params) : State where
  params := p
  cmd := 0
  arg := 0
  result := 0
  mode := .run
  fcode := .none
  fcmd := 0
  mem := Memory.reset p
  busy := false
  idx := 0
  ch := .left
  level := ⟨0, 0⟩
  lpf := ⟨0, 0⟩
  alphaM := ⟨.ofNat 10 (p.alpha .left), .ofNat 10 (p.alpha .right)⟩
  meter := .fftVertical
  active := false
  vph := .blankA
  vcnt := 0
  buttons := ⟨.reset p, .reset p, .reset p⟩
  dout := []
  endedRuns := []
  pending := []

/-- The block right after power-on in the reference configuration (R147; logs 1, 2, 4, 8). -/
def State.reset : State := State.resetWith Params.ref

end Sys2Proof.Machine
end

