-- ==== Sys2Proof/Machine/Operands.lean ====
section
/-! DEFINITION. How the operands of commands are read (spec/30_encoding.md R304-R311, R315) and how the numbered
values of the state are named. -/

namespace Sys2Proof.Machine

/-- The number b of a button (spec/10_state.md R134). -/
def Button.number : Button → Nat
  | .up => 0
  | .down => 1
  | .select => 2

/-- The debounce registers of a button. -/
def Buttons.get (bs : Buttons) : Button → Debouncer
  | .up => bs.up
  | .down => bs.down
  | .select => bs.select

/-- The operand value of the transaction, an unsigned number (R311, R315). -/
def State.argNat (s : State) : Nat := s.arg.toNat

/-- bypass[b] = CMD[3 + b], as bit b of the field (R307). -/
def bypassBit (bypass : BitVec 3) (b : Button) : Bool := bypass.getLsbD b.number

/-- The logical value of a button from its active-low pin: 1 - pins[b] (spec/44_debounce.md R700). -/
def logicalPin (pins : BitVec 3) (b : Button) : Bool := !pins.getLsbD b.number

/-- The meter style min(t, 2) (spec/43_renderer.md R600, R610). -/
def Meter.clamp (t : Nat) : Meter :=
  match min t 2 with
  | 0 => .fftVertical
  | 1 => .vuLines
  | _ => .vuHarrow

/-- (VPH + 1) mod 4 (spec/43_renderer.md R623). -/
def Phase.next : Phase → Phase
  | .blankA => .drawLeft
  | .drawLeft => .blankB
  | .blankB => .drawRight
  | .drawRight => .blankA

/-- PHASE_LEN[VPH] (spec/00_scope.md R8). -/
def phaseLength (p : Params) : Phase → Nat
  | .blankA => p.phaseLen.blankA
  | .drawLeft => p.phaseLen.drawLeft
  | .blankB => p.phaseLen.blankB
  | .drawRight => p.phaseLen.drawRight

/-- The other channel, 1 - CH (spec/40_sampler.md R401). -/
def otherChannel : Channel → Channel
  | .left => .right
  | .right => .left

/-- A sample as CAPBUF holds it: the SW-bit two's-complement value (spec/10_state.md R110, spec/40_sampler.md R422;
log 6). It is v itself for every v the conversion source can deliver. -/
def sampleValue (p : Params) (v : Int) : Int := v.bmod (2 ^ p.sw)

/-- GLYPH_CODE(s) (spec/43_renderer.md R602). -/
def glyphCode (p : Params) (slot : Nat) : CharCode := p.glyphCodes.getD slot 0

/-- DBT[i] as a number (spec/10_state.md R124). -/
def dbtAt (p : Params) (i : Nat) : Nat := (p.dbt.getD i 0).toNat

end Sys2Proof.Machine
end

