-- ==== Sys2Proof/Machine/Flags.lean ====
section
/-! DEFINITION. The status word (spec/10_state.md R145) and the packed result of DBN.STEP (spec/44_debounce.md R704). -/

namespace Sys2Proof.Machine

/-- The value of MODE (spec/10_state.md R106). -/
def Mode.bits : Mode → BitVec 2
  | .run => 0
  | .faulted => 1
  | .halted => 2

/-- The value of FCODE (spec/60_exceptions.md R801). -/
def FaultCode.bits : FaultCode → BitVec 4
  | .none => 0
  | .illegalCmd => 1
  | .busyViolation => 2
  | .notActive => 3
  | .fatalHalt => 8
  | .fatalSpurious => 9

/-- The mode in which FCODE holds a code (spec/60_exceptions.md R801, column class). -/
def FaultCode.mode : FaultCode → Mode
  | .none => .run
  | .illegalCmd | .busyViolation | .notActive => .faulted
  | .fatalHalt | .fatalSpurious => .halted

/-- The value of METER (spec/43_renderer.md R600). -/
def Meter.bits : Meter → BitVec 2
  | .fftVertical => 0
  | .vuLines => 1
  | .vuHarrow => 2

/-- The value of VPH (spec/10_state.md R132). -/
def Phase.bits : Phase → BitVec 2
  | .blankA => 0
  | .drawLeft => 1
  | .blankB => 2
  | .drawRight => 3

/-- The value of CH (spec/10_state.md R113). -/
def channelBits : Channel → BitVec 1
  | .left => 0
  | .right => 1

/-- The status word: from bit 31 down FCODE, 00, MODE, STABLE[2], STABLE[1], STABLE[0], IDX, 0, VPH, METER, ACTIVE, CH,
BUSY (R145). -/
def State.statusWord (s : State) : Word32 :=
  s.fcode.bits ++ (0 : BitVec 2) ++ s.mode.bits ++ BitVec.ofBool s.buttons.select.stable ++
    BitVec.ofBool s.buttons.down.stable ++ BitVec.ofBool s.buttons.up.stable ++ s.idx ++ (0 : BitVec 1) ++ s.vph.bits ++
    s.meter.bits ++ BitVec.ofBool s.active ++ channelBits s.ch ++ BitVec.ofBool s.busy

/-- What DBN.STEP reports of one button (spec/44_debounce.md R703). -/
structure ButtonReport where
  out : Bool
  press : Bool
  release : Bool
deriving DecidableEq, Repr

/-- RESULT of DBN.STEP: out in [2:0], press in [5:3], release in [8:6], button 0 in the lowest bit of each (R704). -/
def debounceResult (up down select : ButtonReport) : Word32 :=
  (0 : BitVec 23) ++ BitVec.ofBool select.release ++ BitVec.ofBool down.release ++ BitVec.ofBool up.release ++
    BitVec.ofBool select.press ++ BitVec.ofBool down.press ++ BitVec.ofBool up.press ++
    BitVec.ofBool select.out ++ BitVec.ofBool down.out ++ BitVec.ofBool up.out

end Sys2Proof.Machine
end

