-- ==== Sys2Proof/Machine/Ops.lean ====
section
/-! DEFINITION. The shared operations: the mode gate and the checks of spec/60_exceptions.md R806, fault entry (R802),
the fatal halt (R810), the reset (spec/70_reset_and_hazards.md R901), the index spaces, and the small writes every
command is built from. -/

namespace Sys2Proof.Machine

/-- CAPBUF[k]; 0 for an index outside (spec/20_memory.md R205). -/
def Memory.readCap (m : Memory) (k : Nat) : Int := m.capbuf.getD k 0

/-- CAPBUF[k] <- v. -/
def Memory.writeCap (m : Memory) (k : Nat) (v : Int) : Memory := { m with capbuf := m.capbuf.set k v }

/-- SPEC[k]; 0 for an index outside (spec/20_memory.md R205). -/
def Memory.readSpec (m : Memory) (k : Nat) : Word32 := m.spec.getD k 0

/-- SPEC[0..] <- bins, every element (spec/20_memory.md R204). -/
def Memory.writeSpec (m : Memory) (bins : List Word32) : Memory := { m with spec := bins }

/-- The form of the index spaces: N samples of SW bits and N/2 bins (spec/10_state.md R110, R120). -/
abbrev Memory.wf (m : Memory) (p : Params) : Prop :=
  m.capbuf.length = p.captureLen ∧ m.spec.length = p.binCount ∧ ∀ v ∈ m.capbuf, p.SampleInRange v

/-- CAPBUF[0..N-1], the N samples a command reads (spec/20_memory.md R204). -/
def State.captured (s : State) : List Int := (List.range s.params.captureLen).map s.mem.readCap

/-- RESULT <- v (spec/10_state.md R103). -/
def State.setResult (s : State) (v : Word32) : State := { s with result := v }

/-- Appends display operations to DOUT, in order (spec/10_state.md R140). -/
def State.emit (s : State) (ops : List DisplayOp) : State := { s with dout := s.dout ++ ops }

/-- LEVEL[c] <- v (spec/10_state.md R121). -/
def State.setLevel (s : State) (c : Channel) (v : Word32) : State := { s with level := s.level.set c v }

/-- LPF[c] <- v (spec/10_state.md R122). -/
def State.setLpf (s : State) (c : Channel) (v : Word32) : State := { s with lpf := s.lpf.set c v }

/-- SPEC <- bins (spec/10_state.md R120). -/
def State.setSpec (s : State) (bins : List Word32) : State := { s with mem := s.mem.writeSpec bins }

/-- IDX <- 0; BUSY <- 1 (spec/40_sampler.md R400, R401). -/
def State.armCapture (s : State) : State := { s with idx := 0, busy := true }

/-- CH <- 1 - CH (spec/40_sampler.md R401). -/
def State.toggleChannel (s : State) : State := { s with ch := otherChannel s.ch }

/-- VPH <- phase; VCNT <- count (spec/10_state.md R132, R133). -/
def State.setPhase (s : State) (phase : Phase) (count : BitVec 8) : State := { s with vph := phase, vcnt := count }

/-- METER <- m; ACTIVE <- 1 (spec/43_renderer.md R610). -/
def State.selectMeter (s : State) (m : Meter) : State := { s with meter := m, active := true }

/-- The debounce registers written (spec/44_debounce.md R700). -/
def State.setButtons (s : State) (bs : Buttons) : State := { s with buttons := bs }

/-- `raise Fault(code)` (spec/60_exceptions.md R802): MODE, FCODE and FCMD written, nothing else. -/
def State.raiseFault (code : FaultCode) (s : State) : State :=
  { s with mode := .faulted, fcode := code, fcmd := s.cmd }

/-- The diagnostic of the fatal halt: CLEAR, CURSOR(0, 0), the characters of DIAG_TEXT (spec/60_exceptions.md R810). -/
def diagnosticOps (p : Params) : List DisplayOp :=
  .clear :: .cursor 0 0 :: p.diagText.map .char

/-- `raise Fatal(code)` (spec/60_exceptions.md R810), with the word FCMD takes. -/
def State.raiseFatal (code : FaultCode) (fcmd : CmdWord) (s : State) : State :=
  { s with fcode := code, fcmd := fcmd, dout := s.dout ++ diagnosticOps s.params, mode := .halted }

/-- The fault outcome of the run: none while MODE = RUN (spec/60_exceptions.md R818). -/
def State.faultOutcome (s : State) : Option FaultOutcome :=
  if s.mode = .run then none else some ⟨s.mode, s.fcode, s.fcmd⟩

/-- The reset action (spec/70_reset_and_hazards.md R901, R902): every register of R147 at its reset value; DOUT, the
parameters, the transaction in flight and the agents' moves to come stay (log 19). After a fault it starts a new run, and
the outcome of the run it ends is kept (spec/60_exceptions.md R818; log 8). -/
def State.performReset (s : State) : State :=
  { State.resetWith s.params with
    cmd := s.cmd
    arg := s.arg
    dout := s.dout
    endedRuns := s.endedRuns ++ s.faultOutcome.toList
    pending := s.pending }

/-- Step 1 of the check order (spec/60_exceptions.md R806): in FAULTED (R803) and HALTED (R811) an ordinary command
word has no effect. -/
def whenRunning (s : State) (act : State → State) : State := if s.mode = .run then act s else s

/-- Step 3 of the check order (spec/60_exceptions.md R805, R806): BUSY_VIOLATION while BUSY = 1. -/
def unlessBusy (s : State) (act : State → State) : State :=
  if s.busy then s.raiseFault .busyViolation else act s

/-- Step 4 of the check order (spec/60_exceptions.md R806, R807): NOT_ACTIVE while ACTIVE = 0. -/
def whenActive (s : State) (act : State → State) : State :=
  if s.active then act s else s.raiseFault .notActive

/-- Step 2 of the check order (spec/60_exceptions.md R804, R806): an illegal command word. -/
def illegalCommand (s : State) : State := whenRunning s (State.raiseFault .illegalCmd)

end Sys2Proof.Machine
end

