-- ==== Sys2Proof/Machine/Debounce.lean ====
section
/-! DEFINITION. The debounce edge detector (spec/44_debounce.md). -/

namespace Sys2Proof.Machine

/-- The timer started, if it does not run yet (R701). -/
def Debouncer.startTimer (d : Debouncer) (now : Word32) : Debouncer :=
  if d.armed then d else { d with armed := true, ts := now }

/-- debounce1(b, lg, now) (R701, R702): the registers after the call; the value returned is `stable`. -/
def Debouncer.step (d : Debouncer) (lg : Bool) (now : Word32) : Debouncer :=
  if lg = d.stable then { d with armed := false, ts := 0 }
  else
    let d := d.startTimer now
    let timeout := if lg then d.toRise else d.toFall
    if timeout.toNat ≤ (now - d.ts).toNat then { d with stable := lg, armed := false, ts := 0 } else d

/-- One button of DBN.STEP: its registers after, and what it reports (R700, R703, R705). -/
def Debouncer.call (d : Debouncer) (bypass lg : Bool) (now : Word32) : Debouncer × ButtonReport :=
  let d' := if bypass then d else d.step lg now
  let out := if bypass then lg else d'.stable
  ({ d' with lastOut := out }, ⟨out, !d.lastOut && out, d.lastOut && !out⟩)

/-- The call of button b in DBN.STEP bypass, pins at time now (R700). -/
def buttonCall (bs : Buttons) (bypass pins : BitVec 3) (now : Word32) (b : Button) : Debouncer × ButtonReport :=
  (bs.get b).call (bypassBit bypass b) (logicalPin pins b) now

/-- The three buttons stepped at time ARG (R700, R704). -/
def stepButtons (bypass pins : BitVec 3) (s : State) : State :=
  let call := buttonCall s.buttons bypass pins s.arg
  (s.setButtons ⟨(call .up).1, (call .down).1, (call .select).1⟩).setResult
    (debounceResult (call .up).2 (call .down).2 (call .select).2)

/-- DBN.STEP bypass, pins, with now = ARG (R700). -/
def execDbnStep (bypass pins : BitVec 3) (s : State) : Host.Outcome State Fault Refusal :=
  .next (whenRunning s (stepButtons bypass pins))

end Sys2Proof.Machine
end

