-- ==== Sys2Proof/Machine/Arith.lean ====
section
/-! DEFINITION. The integer square root of spec/00_scope.md R11. -/

namespace Sys2Proof.Machine

/-- The root bit by bit: with `r` found so far, tries the bits `b - 1, ..., 0`. -/
def isqrtFrom (n : Nat) : Nat → Nat → Nat
  | 0, r => r
  | b + 1, r => if (r + 2 ^ b) * (r + 2 ^ b) ≤ n then isqrtFrom n b (r + 2 ^ b) else isqrtFrom n b r

/-- isqrt(n): the largest r with r*r ≤ n (R11). -/
def isqrt (n : Nat) : Nat := isqrtFrom n (n.log2 / 2 + 1) 0

end Sys2Proof.Machine
end

