-- ==== Sys2Proof/Machine/Level.lean ====
section
/-! DEFINITION. The level meter (spec/42_level.md): RMS, the smoothing filter, the dB map, and their commands. -/

namespace Sys2Proof.Machine

/-- The sum of the squared deviations from MIDSCALE (R500). -/
def sumSquares (p : Params) (xs : List Int) : Nat := (xs.map fun x => (x - p.midscale).natAbs ^ 2).sum

/-- rms() (R500). -/
def rms (s : State) : Nat := isqrt (sumSquares s.params s.captured / s.params.captureLen)

/-- The filter step of a product p, rounded as LPF_ROUND says (R501). -/
def filterStep (round : LpfRound) (p : Nat) : Nat :=
  match round with
  | .away => (p + 999) / 1000
  | .trunc => p / 1000

/-- lpf(raw, out, c) with ALPHA_M[c] = alpha (R501). -/
def lpf (round : LpfRound) (alpha : Nat) (raw out : Nat) : Int :=
  let d : Int := raw - out
  let step := filterStep round (d.natAbs * alpha)
  if d = 0 then out else if 0 < d then out + step else out - step

/-- LPF[c] after one update with raw (R501). -/
def filtered (s : State) (c : Channel) (raw : Nat) : Word32 :=
  .ofInt 32 (lpf s.params.lpfRound (s.alphaM.get c).toNat raw (s.lpf.get c).toNat)

/-- The scan of R502: the counter, with `cnt` left and the table read at `i`. -/
def dbScan (p : Params) (value stride : Nat) : Nat → Nat → Nat
  | 0, _ => 0
  | cnt + 1, i => if dbtAt p i ≤ value then cnt + 1 else dbScan p value stride cnt (i + stride)

/-- dbmap(value, cells) (R502). -/
def dbmap (p : Params) (value cells : Nat) : Nat :=
  if cells ∈ Config.cellSet then dbScan p value (p.dbt.length / cells) cells 0 else 0

/-- LEVEL[CH] <- rms(); RESULT <- it (R510). -/
def measureLevel (s : State) : State :=
  let r : Word32 := .ofNat 32 (rms s)
  (s.setLevel s.ch r).setResult r

/-- LPF[c] <- lpf(raw, LPF[c], c); RESULT <- LPF[c] (R511, R512). -/
def filterChannel (c : Channel) (raw : Nat) (s : State) : State :=
  let f := filtered s c raw
  (s.setLpf c f).setResult f

/-- LVL.RMS (R510). -/
def execLvlRms (s : State) : Host.Outcome State Fault Refusal :=
  .next (whenRunning s fun s => unlessBusy s measureLevel)

/-- LVL.FILT c, with raw = ARG (R511). -/
def execLvlFilt (c : Channel) (s : State) : Host.Outcome State Fault Refusal :=
  .next (whenRunning s fun s => filterChannel c s.argNat s)

/-- LVL.UPDATE (R512). -/
def execLvlUpdate (s : State) : Host.Outcome State Fault Refusal :=
  .next (whenRunning s fun s => unlessBusy s fun s => filterChannel s.ch (rms s) (measureLevel s))

/-- DB.MAP cells, with value = ARG (R513). -/
def execDbMap (cells : Nat) (s : State) : Host.Outcome State Fault Refusal :=
  .next (whenRunning s fun s => s.setResult (.ofNat 32 (dbmap s.params s.argNat cells)))

/-- RD.LVL f, c (R514). -/
def execRdLvl (f : LevelSel) (c : Channel) (s : State) : Host.Outcome State Fault Refusal :=
  .next (whenRunning s fun s => s.setResult (match f with | .raw => s.level.get c | .filtered => s.lpf.get c))

end Sys2Proof.Machine
end

