-- ==== Sys2Proof/Machine/Renderer.lean ====
section
/-! DEFINITION. The renderer (spec/43_renderer.md). -/

namespace Sys2Proof.Machine

/-- FIELD(codes) (R604). -/
def fieldOps (p : Params) (codes : List CharCode) : List DisplayOp :=
  .cursor p.meterRow p.meterCol0 :: codes.map .char

/-- LOADSET(set) from a slot on (R605). -/
def loadSetFrom (slot : Nat) : List GlyphBits → List DisplayOp
  | [] => []
  | g :: gs => .glyph slot g :: loadSetFrom (slot + 1) gs

/-- LOADSET(set) (R605). -/
def loadSet (set : List GlyphBits) : List DisplayOp := loadSetFrom 0 set

/-- BLANKFIELD (R606). -/
def blankField (p : Params) : List DisplayOp := fieldOps p (List.replicate vulCells p.spaceCode)

/-- Cell j of vubar(L) (R607). -/
def vubarCell (p : Params) (l j : Nat) : CharCode :=
  let q := l / 5
  let r := l - 5 * q
  if j < q then glyphCode p 4 else if j = q ∧ 0 < r then glyphCode p (r - 1) else p.spaceCode

/-- vubar(L) (R607). -/
def vubar (p : Params) (l : Nat) : List CharCode := (List.range vulCells).map (vubarCell p l)

/-- The activation action of a style (R611). -/
def activationOps (p : Params) : Meter → List DisplayOp
  | .fftVertical => loadSet p.glyphs.fftSet
  | .vuLines => blankField p ++ loadSet p.glyphs.vulUpper
  | .vuHarrow => loadSet p.glyphs.harrowSet

/-- RND.ACT t (R610): the style selected and its state machine restarted, then its activation action. -/
def activate (t : Nat) (s : State) : State :=
  ((s.selectMeter (.clamp t)).setPhase .blankA 0).emit (activationOps s.params (.clamp t))

/-- SPEC[3c] + SPEC[3c+1] + SPEC[3c+2], exact (R621). -/
def runSum (m : Memory) (c : Nat) : Nat :=
  (m.readSpec (3 * c)).toNat + (m.readSpec (3 * c + 1)).toNat + (m.readSpec (3 * c + 2)).toNat

/-- The code that shows a bar of height h (R621). -/
def heightCode (p : Params) (h : Nat) : CharCode := if h = 0 then p.spaceCode else glyphCode p (h - 1)

/-- refresh_fft() (R621). -/
def fftFieldOps (s : State) : List DisplayOp :=
  fieldOps s.params ((List.range s.params.fftCells).map fun c =>
    heightCode s.params (dbmap s.params (runSum s.mem c) 7))

/-- What a VU_LINES refresh draws in a phase (R622). -/
def phaseDrawOps (s : State) : Phase → List DisplayOp
  | .blankA => []
  | .drawLeft => fieldOps s.params (vubar s.params (dbmap s.params s.lpf.left.toNat 50))
  | .blankB => []
  | .drawRight => fieldOps s.params (vubar s.params (dbmap s.params s.lpf.right.toNat 50))

/-- What entering a VU_LINES phase does (R622). -/
def phaseEntryOps (p : Params) : Phase → List DisplayOp
  | .blankA => blankField p ++ loadSet p.glyphs.vulUpper
  | .drawLeft => []
  | .blankB => blankField p ++ loadSet p.glyphs.vulLower
  | .drawRight => []

/-- refresh_vul() (R623). The refresh that ends a draw phase emits two fields, as its pseudocode and vector RND-25 say, and
not the one of the derived R625(b). DEDUCED (log 13). -/
def refreshVul (s : State) : State :=
  let drawn := s.emit (phaseDrawOps s s.vph)
  if phaseLength s.params s.vph ≤ s.vcnt.toNat + 1 then
    (drawn.setPhase s.vph.next 0).emit (phaseEntryOps s.params s.vph.next)
  else drawn.setPhase s.vph (.ofNat 8 (s.vcnt.toNat + 1))

/-- sym[i] of the harrow meter for the mapped levels l and r (R624). -/
def harrowCell (p : Params) (l r i : Nat) : CharCode :=
  if i ≤ l ∧ i ≤ r then glyphCode p 2
  else if i ≤ r then glyphCode p 0
  else if i ≤ l then glyphCode p 1
  else p.spaceCode

/-- sym[1..10] (R624). -/
def harrowCodes (p : Params) (l r : Nat) : List CharCode :=
  (List.range harrowCells).map fun j => harrowCell p l r (j + 1)

/-- refresh_harrow() (R624). -/
def harrowFieldOps (s : State) : List DisplayOp :=
  let codes := harrowCodes s.params (dbmap s.params s.lpf.left.toNat 10) (dbmap s.params s.lpf.right.toNat 10)
  fieldOps s.params (match s.params.harrowDir with | .ltr => codes | .rtl => codes.reverse)

/-- The refresh of the selected style (R620). -/
def refresh (s : State) : State :=
  match s.meter with
  | .fftVertical => s.emit (fftFieldOps s)
  | .vuLines => refreshVul s
  | .vuHarrow => s.emit (harrowFieldOps s)

/-- RND.ACT t (R610). -/
def execRndAct (t : Nat) (s : State) : Host.Outcome State Fault Refusal :=
  .next (whenRunning s (activate t))

/-- RND.REF (R620). -/
def execRndRef (s : State) : Host.Outcome State Fault Refusal :=
  .next (whenRunning s fun s => whenActive s refresh)

end Sys2Proof.Machine
end

