-- ==== Sys2Proof/Machine/Sampler.lean ====
section
/-! DEFINITION. The sampler commands and the sample event (spec/40_sampler.md). -/

namespace Sys2Proof.Machine

/-- SMP.START (R400). -/
def execSmpStart (s : State) : Host.Outcome State Fault Refusal :=
  .next (whenRunning s fun s => unlessBusy s State.armCapture)

/-- SMP.NEXT (R401). -/
def execSmpNext (s : State) : Host.Outcome State Fault Refusal :=
  .next (whenRunning s fun s => unlessBusy s fun s => s.toggleChannel.armCapture)

/-- What RD.CAP k reads: CAPBUF[k] sign-extended, 0 out of range (R402). -/
def capReadout (s : State) (k : Nat) : Word32 :=
  if k < s.params.captureLen then .ofInt 32 (s.mem.readCap k) else 0

/-- RD.CAP k (R402). -/
def execRdCap (k : Nat) (s : State) : Host.Outcome State Fault Refusal :=
  .next (whenRunning s fun s => unlessBusy s fun s => s.setResult (capReadout s k))

/-- The effect of an enabled sample event: CAPBUF[IDX] <- v, IDX <- IDX + 1, BUSY <- 0 when IDX reaches N (R421). -/
def storeSample (v : Int) (s : State) : State :=
  { s with
    mem := s.mem.writeCap s.idx.toNat (sampleValue s.params v)
    idx := .ofNat 13 (s.idx.toNat + 1)
    busy := decide (s.idx.toNat + 1 ≠ s.params.captureLen) }

/-- EV.SAMPLE(v) (R420-R423). With MODE ≠ RUN or BUSY = 0 the conversion source has no step, so nothing happens (log 5);
an index outside CAPBUF, which no run reaches, stops (log 7). -/
def sampleEvent (v : Int) (s : State) : Host.Outcome State Fault Refusal :=
  if s.mode = .run ∧ s.busy = true then
    if s.idx.toNat < s.params.captureLen then .next (storeSample v s) else .fault .captureIndexOutOfRange
  else .next s

end Sys2Proof.Machine
end

