-- ==== Sys2Proof/Machine/Spectral.lean ====
section
/-! DEFINITION. The spectral analyzer (spec/41_spectral.md), with the reference instance of FFT_MAG (R451, R453) in
exact integer arithmetic (log 10). -/

namespace Sys2Proof.Machine

/-- The bits after the binary point of the reference instance's cosines: enough that the floor of R453 comes out exact
for every SW-bit buffer of 2^m samples (log 10). -/
def cosinePrecision (m : Nat) : Nat := 2 ^ m / 4 * (2 * (15 + m)) + 100

/-- 2*cos(2*pi / 2^(k+2)) times 2^prec, by the half-angle rule from 2*cos(pi/2) = 0. -/
def halfAngle (prec : Nat) : Nat → Nat
  | 0 => 0
  | k + 1 => isqrt ((2 * 2 ^ prec + halfAngle prec k) * 2 ^ prec)

/-- The `n` numbers after `a, b` in the sequence of 2*cos(j*t) times 2^prec, where `t1` is its value at j = 1:
2*cos((j+1)*t) = 2*cos(t) * 2*cos(j*t) - 2*cos((j-1)*t). -/
def chebyshev (prec : Nat) (t1 : Int) : Nat → Int → Int → List Int
  | 0, _, _ => []
  | n + 1, a, b => let c := t1 * b / 2 ^ prec - a; c :: chebyshev prec t1 n b c

/-- 2*cos(2*pi*j / 2^m) times 2^prec for j = 0 .. 2^m / 4 - 1, for m ≥ 3. -/
def quarterCosines (prec m : Nat) : List Int :=
  let t1 : Int := halfAngle prec (m - 2)
  2 * 2 ^ prec :: t1 :: chebyshev prec t1 (2 ^ m / 4 - 2) (2 * 2 ^ prec) t1

/-- 2*cos(2*pi*e / n) times 2^prec for e < n, from the first quarter, by the symmetries of the cosine. -/
def cosineAt (n : Nat) (quarter : List Int) (e : Nat) : Int :=
  let e := if n / 2 < e then n - e else e
  if e < n / 4 then quarter.getD e 0 else if n / 4 < e then -quarter.getD (n / 2 - e) 0 else 0

/-- The sum of the products of two lists, element by element. -/
def dot : List Int → List Int → Int
  | x :: xs, y :: ys => x * y + dot xs ys
  | _, _ => 0

/-- The circular autocorrelation R[d] = sum of x[n] * x[(n + d) mod N], d = 0 .. N - 1. -/
def autocorrelation (xs : List Int) : List Int :=
  (List.range xs.length).map fun d => dot xs (xs.drop d ++ xs.take d)

/-- The sum over d of R[d] * 2*cos(2*pi*k*d / N) times 2^prec, which is 2 * |X[k]|^2 times 2^prec: the squared magnitude
of the transform of R451 is the transform of the autocorrelation. -/
def scaledPower (n : Nat) (quarter : List Int) (k : Nat) : Nat → List Int → Int
  | _, [] => 0
  | d, r :: rs => r * cosineAt n quarter (k * d % n) + scaledPower n quarter k (d + 1) rs

/-- floor(|X[k]|) (R453), from the autocorrelation and the quarter of cosines. -/
def referenceBin (m : Nat) (quarter corr : List Int) (k : Nat) : Nat :=
  isqrt (scaledPower (2 ^ m) quarter k 0 corr / (2 * 2 ^ cosinePrecision m)).toNat

/-- The bins `ks` of FFT_MAG_REF (R453) of the buffer xs of 2^m samples. -/
def referenceMagnitudes (m : Nat) (xs : List Int) (ks : List Nat) : List Nat :=
  let quarter := quarterCosines (cosinePrecision m) m
  let corr := autocorrelation xs
  ks.map (referenceBin m quarter corr)

/-- FFT_MAG (R452): N/2 magnitudes of the N samples. -/
def fftMagnitudes (p : Params) (xs : List Int) : List Nat :=
  match p.fftMag with
  | .reference => referenceMagnitudes p.log2N xs (List.range p.binCount)
  | .unknown id => (List.range p.binCount).map (Config.unknownFftMag id xs)

/-- m[0] <- 0. -/
def zeroDc (m : List Nat) : List Nat := m.set 0 0

/-- SMOOTH (R454): m[0] stays, every other bin by one formula. -/
def smoothed (p : Params) (m : List Nat) : List Nat :=
  match p.smooth with
  | .identity => m
  | .unknown id => (List.range m.length).map fun k => if k = 0 then m.getD 0 0 else Config.unknownSmooth id m k

/-- A magnitude as SPEC holds it: min(v, 2^32 - 1) (R450). -/
def saturate (v : Nat) : Word32 := .ofNat 32 (min v (2 ^ 32 - 1))

/-- The bins FFT.RUN writes (R450). -/
def spectrumBins (p : Params) (xs : List Int) : List Word32 :=
  ((smoothed p (zeroDc (fftMagnitudes p xs))).map saturate).set 0 0

/-- FFT.RUN (R450). -/
def execFftRun (s : State) : Host.Outcome State Fault Refusal :=
  .next (whenRunning s fun s => unlessBusy s fun s => s.setSpec (spectrumBins s.params s.captured))

/-- What RD.SPEC k reads: SPEC[k], 0 out of range (R455). -/
def specReadout (s : State) (k : Nat) : Word32 :=
  if k < s.params.binCount then s.mem.readSpec k else 0

/-- RD.SPEC k (R455). -/
def execRdSpec (k : Nat) (s : State) : Host.Outcome State Fault Refusal :=
  .next (whenRunning s fun s => s.setResult (specReadout s k))

end Sys2Proof.Machine
end

