-- ==== Sys2Proof/Machine/System.lean ====
section
/-! DEFINITION. The system commands (spec/45_system.md), the spurious-interrupt event (spec/60_exceptions.md R812) and
the reset input (spec/70_reset_and_hazards.md R900). -/

namespace Sys2Proof.Machine

/-- NOP (R750). -/
def execNop (s : State) : Host.Outcome State Fault Refusal := .next s

/-- RD.STAT (R751): executes in every MODE. -/
def execRdStat (s : State) : Host.Outcome State Fault Refusal := .next (s.setResult s.statusWord)

/-- SYS.RESET (R752): executes in RUN and in FAULTED. -/
def execSysReset (s : State) : Host.Outcome State Fault Refusal :=
  .next (if s.mode = .halted then s else s.performReset)

/-- SYS.HALT (R753): executes in RUN only; FCMD takes the word in execution. -/
def execSysHalt (s : State) : Host.Outcome State Fault Refusal :=
  .next (whenRunning s (State.raiseFatal .fatalHalt s.cmd))

/-- EV.SPUR (spec/60_exceptions.md R812). -/
def spuriousEvent (s : State) : State :=
  if s.mode = .halted then s else s.raiseFatal .fatalSpurious 0

/-- RST_N asserted (spec/70_reset_and_hazards.md R900, R901). -/
def resetInput (s : State) : State := s.performReset

end Sys2Proof.Machine
end

