-- ==== Sys2Proof/Machine/Dispatch.lean ====
section
/-! DEFINITION. The meaning of every command, one arm per constructor of `Instr`. -/

namespace Sys2Proof.Machine

def exec (i : Instr) (s : State) : Host.Outcome State Fault Refusal :=
  match i with
  | .nop => Sys2Proof.Machine.execNop s
  | .smpStart => Sys2Proof.Machine.execSmpStart s
  | .smpNext => Sys2Proof.Machine.execSmpNext s
  | .lvlRms => Sys2Proof.Machine.execLvlRms s
  | .lvlFilt c => Sys2Proof.Machine.execLvlFilt c s
  | .lvlUpdate => Sys2Proof.Machine.execLvlUpdate s
  | .fftRun => Sys2Proof.Machine.execFftRun s
  | .dbMap cells => Sys2Proof.Machine.execDbMap cells s
  | .rndAct t => Sys2Proof.Machine.execRndAct t s
  | .rndRef => Sys2Proof.Machine.execRndRef s
  | .dbnStep bypass pins => Sys2Proof.Machine.execDbnStep bypass pins s
  | .rdStat => Sys2Proof.Machine.execRdStat s
  | .rdSpec k => Sys2Proof.Machine.execRdSpec k s
  | .rdLvl f c => Sys2Proof.Machine.execRdLvl f c s
  | .rdCap k => Sys2Proof.Machine.execRdCap k s
  | .sysReset => Sys2Proof.Machine.execSysReset s
  | .sysHalt => Sys2Proof.Machine.execSysHalt s

end Sys2Proof.Machine
end

