-- ==== Sys2Proof/Machine/Port.lean ====
section
/-! DEFINITION. The command port and the agents' moves: a command transaction (spec/30_encoding.md R300), and one move
of the schedule (spec/10_state.md R100, spec/20_memory.md R209, R210). -/

namespace Sys2Proof.Machine

/-- The transaction (CMD, ARG) in the port registers (spec/10_state.md R101, R102). -/
def State.latch (s : State) (cmd : CmdWord) (arg : Word32) : State := { s with cmd := cmd, arg := arg }

/-- No transaction in flight: neither port register survives it (spec/10_state.md R101, R102; log 4). -/
def State.release (s : State) : State := { s with cmd := 0, arg := 0 }

/-- The next state of an outcome changed; a stop stays. -/
def mapNext (f : State → State) : Host.Outcome State Fault Refusal → Host.Outcome State Fault Refusal
  | .next s => .next (f s)
  | .fault r => .fault r
  | .refused r => .refused r

/-- One command transaction, atomic: latched, decoded, executed or illegal, released (spec/30_encoding.md R300, R313). -/
def runTransaction (cmd : CmdWord) (arg : Word32) (s : State) : Host.Outcome State Fault Refusal :=
  match decode cmd with
  | .ok i => mapNext State.release (exec i (s.latch cmd arg))
  | .error _ => .next (illegalCommand (s.latch cmd arg)).release

/-- One move of an agent (spec/10_state.md R100). -/
def takeMove (move : Input) (s : State) : Host.Outcome State Fault Refusal :=
  match move with
  | .command cmd arg => runTransaction cmd arg s
  | .sample v => sampleEvent v s
  | .spurious => .next (spuriousEvent s)
  | .resetAsserted => .next (resetInput s)

/-- The next move of the schedule; with none the block waits (spec/70_reset_and_hazards.md R903; log 2). -/
def advance (s : State) : Host.Outcome State Fault Refusal :=
  match s.pending with
  | [] => .next s
  | move :: rest => takeMove move { s with pending := rest }

/-- A transaction put before the agents' other moves (log 3). -/
def State.offer (s : State) (cmd : CmdWord) (arg : Word32) : State :=
  { s with pending := .command cmd arg :: s.pending }

end Sys2Proof.Machine
end

