-- ==== Sys2Proof/Machine/Step.lean ====
section
/-! DEFINITION. One step of the machine: one move of one agent (spec/10_state.md R100, spec/20_memory.md R209). -/

namespace Sys2Proof.Machine

/-- One step: the next move of the schedule. -/
def step (s : State) : Host.Outcome State Fault Refusal := advance s

/-- The state in which the host issues the command word w, with ARG = 0, as the very next move (log 3). The block
fetches no instructions (spec/10_state.md R105): a command comes from the host. -/
def State.withFetchWord (s : State) (_nbits w : Nat) : State := s.offer (.ofNat 16 w) 0

end Sys2Proof.Machine
end

