-- ==== Sys2Proof/Machine/Duties.lean ====
section
/-! DEFINITION. The duties of the host that spec/60_exceptions.md R840 marks "no move", as a premise on the moves to come
(log 23). The block does not check them (R840, spec/20_memory.md R214): step runs every schedule, and a claim about the runs
of R840, in which the host breaks no duty, takes `State.keepsDuties` as its premise. -/

namespace Sys2Proof.Machine

/-- When a move is made: the time of the host's microsecond Clock (R831) and the number of the main-loop cycle, counted from
1; 0 is the boot before the loop (spec/70_reset_and_hazards.md R910). -/
structure Stamp where
  time : Nat
  loop : Nat
deriving DecidableEq, Repr

/-- What the duties need to know of the moves already made. -/
structure HostLog where
  /-- The stamp of the last move. -/
  last : Option Stamp
  /-- LVL.UPDATE has run on the completed cycle in CAPBUF. -/
  updated : Bool
  /-- The stamp of the last RND.REF. -/
  lastRefresh : Option Stamp
  /-- The stamp of the last DBN.STEP. -/
  lastDebounce : Option Stamp
deriving DecidableEq, Repr

/-- No move made yet. -/
def HostLog.start : HostLog := ⟨none, false, none, none⟩

/-- The length of a RENDER_TICK in microseconds (R832). -/
def tickMicros : RenderTick → Nat
  | .ms10 => 10000
  | .ms50 => 50000

/-- The relation holds from an earlier stamp, if there is one. -/
def sinceLast (earlier : Option Stamp) (p : Stamp → Bool) : Bool := earlier.all p

/-- A completed capture cycle is in CAPBUF: BUSY = 0 and IDX = N (spec/10_state.md R114). -/
def State.cycleComplete (s : State) : Bool := !s.busy && decide (s.idx.toNat = s.params.captureLen)

/-- The block is idle and runs, so a command that uses the capture buffer takes effect. -/
def State.captureIdle (s : State) : Bool := decide (s.mode = .run) && !s.busy

/-- "first cycle": no analysis of a buffer that no capture cycle filled (R840, spec/70_reset_and_hazards.md R921). -/
def analysesCompleteCycle (s : State) : Instr → Bool
  | .lvlRms | .lvlUpdate | .fftRun | .rdCap _ => !s.captureIdle || s.cycleComplete
  | .nop | .smpStart | .smpNext | .lvlFilt _ | .dbMap _ | .rndAct _ | .rndRef | .dbnStep _ _ | .rdStat => true
  | .rdSpec _ | .rdLvl _ _ | .sysReset | .sysHalt => true

/-- "consume a cycle": LVL.UPDATE exactly once on each completed cycle before the next is armed (R840, spec/20_memory.md
R214, spec/70_reset_and_hazards.md R922). DESIGN CHOICE (log 23): the spec does not say whether a SYS.RESET or RST_N that
discards a completed cycle without its update breaks the duty; here it does not, as no cycle is re-armed. -/
def consumesCycleOnce (h : HostLog) (s : State) : Instr → Bool
  | .lvlUpdate => !s.captureIdle || !h.updated
  | .smpStart | .smpNext => !(s.captureIdle && s.cycleComplete) || h.updated
  | .nop | .lvlRms | .lvlFilt _ | .fftRun | .dbMap _ | .rndAct _ | .rndRef | .dbnStep _ _ | .rdStat | .rdSpec _ => true
  | .rdLvl _ _ | .rdCap _ | .sysReset | .sysHalt => true

/-- "refresh": at most one RND.REF per RENDER_TICK (R832, R840). -/
def refreshesOncePerTick (h : HostLog) (now : Stamp) (s : State) : Instr → Bool
  | .rndRef => sinceLast h.lastRefresh fun r =>
      decide (r.time / tickMicros s.params.renderTick < now.time / tickMicros s.params.renderTick)
  | .nop | .smpStart | .smpNext | .lvlRms | .lvlFilt _ | .lvlUpdate | .fftRun | .dbMap _ | .rndAct _ | .dbnStep _ _ => true
  | .rdStat | .rdSpec _ | .rdLvl _ _ | .rdCap _ | .sysReset | .sysHalt => true

/-- A DBN.STEP has been issued in the main-loop cycle. -/
def HostLog.debouncedIn (h : HostLog) (loop : Nat) : Bool := h.lastDebounce.any fun d => decide (d.loop = loop)

/-- "debounce", monotonic and no cycle left out: the time does not go back, and a main-loop cycle is left for the next one
only after its DBN.STEP; the boot has none (R840, spec/70_reset_and_hazards.md R910). DESIGN CHOICE (log 23): with no move
made yet the first stamp is free, so a run may begin at any time and in any main-loop cycle, or at boot. -/
def HostLog.precedes (h : HostLog) (now : Stamp) : Bool :=
  sinceLast h.last fun e => decide (e.time ≤ now.time) &&
    (decide (now.loop = e.loop) || decide (now.loop = e.loop + 1) && (decide (e.loop = 0) || h.debouncedIn e.loop))

/-- "debounce": `now` is the time of the Clock, in 32 bits, and a main-loop cycle has no second DBN.STEP (R831, R840). -/
def debouncesOncePerLoop (h : HostLog) (now : Stamp) (arg : Word32) : Instr → Bool
  | .dbnStep _ _ => decide (arg = .ofNat 32 now.time) && decide (now.loop ≠ 0) && !h.debouncedIn now.loop
  | .nop | .smpStart | .smpNext | .lvlRms | .lvlFilt _ | .lvlUpdate | .fftRun | .dbMap _ | .rndAct _ | .rndRef => true
  | .rdStat | .rdSpec _ | .rdLvl _ _ | .rdCap _ | .sysReset | .sysHalt => true

/-- "fatal": after SYS.HALT the host only asserts RST_N, or reads the status (R811, R840). -/
def quietAfterHalt (s : State) (w : CmdWord) : Bool := decide (s.fcode ≠ .fatalHalt) || decide (w = 0xB000)

/-- The transaction (w, arg) breaks no duty. An illegal word is refused by the block. -/
def transactionKeepsDuties (h : HostLog) (now : Stamp) (s : State) (w : CmdWord) (arg : Word32) : Bool :=
  quietAfterHalt s w &&
    match decode w with
    | .ok i => analysesCompleteCycle s i && consumesCycleOnce h s i && refreshesOncePerTick h now s i &&
        debouncesOncePerLoop h now arg i
    | .error _ => true

/-- The next move, made at `now`, breaks no duty of the host. The other agents have none. -/
def State.moveKeepsDuties (s : State) (h : HostLog) (now : Stamp) : Bool :=
  h.precedes now &&
    match s.pending.head? with
    | some (.command w arg) => transactionKeepsDuties h now s w arg
    | some (.sample _) | some .spurious | some .resetAsserted | none => true

/-- The command of the next move, where it is a legal transaction. -/
def State.nextCommand (s : State) : Option Instr :=
  match s.pending.head? with
  | some (.command w _) => (decode w).toOption
  | some (.sample _) | some .spurious | some .resetAsserted | none => none

/-- The log after the step from s to t at `now`. -/
def HostLog.after (h : HostLog) (now : Stamp) (s t : State) : HostLog where
  last := some now
  updated := t.cycleComplete && (h.updated || s.captureIdle && decide (s.nextCommand = some .lvlUpdate))
  lastRefresh := if s.nextCommand = some .rndRef then some now else h.lastRefresh
  lastDebounce := if (s.nextCommand.any fun i => i matches .dbnStep _ _) then some now else h.lastDebounce

/-- PREMISE of a claim about the runs of R840: the host breaks no duty in the next steps, made at the stamps given. -/
def State.keepsDuties : List Stamp → HostLog → State → Bool
  | [], _, _ => true
  | now :: later, h, s => s.moveKeepsDuties h now && match step s with
    | .next t => t.keepsDuties later (h.after now s t)
    | .fault _ | .refused _ => false

end Sys2Proof.Machine
end

