-- ==== Sys2Proof/Machine/Run.lean ====
section
/-! DEFINITION. Runs (spec/60_exceptions.md R818): where a run ends and the next one starts, the steps within one run, and
the premise of a claim about a command sequence (log 8). -/

namespace Sys2Proof.Machine

/-- The next step ends the run and starts a new one: a reset after a fault. RST_N does so in FAULTED and HALTED, SYS.RESET in
FAULTED only (spec/60_exceptions.md R803, R811, R818). -/
def State.endsRun (s : State) : Bool :=
  match s.pending.head? with
  | some .resetAsserted => decide (s.mode ≠ .run)
  | some (.command w _) => decide (s.mode = .faulted) && decide (w = 0xF000)
  | some (.sample _) | some .spurious | none => false

/-- At most n steps within one run: it stops before the reset that would start a new run. -/
def runWithin : Nat → State → Host.Outcome State Fault Refusal
  | 0, s => .next s
  | n + 1, s =>
    if s.endsRun then .next s
    else match step s with
      | .next t => runWithin n t
      | .fault r => .fault r
      | .refused r => .refused r

/-- MODE = RUN now and after each of the next n steps: the premise of a claim about a command sequence. -/
def State.runningThrough : Nat → State → Bool
  | 0, s => decide (s.mode = .run)
  | n + 1, s => decide (s.mode = .run) && match step s with
    | .next t => t.runningThrough n
    | .fault _ | .refused _ => false

end Sys2Proof.Machine
end

