-- ==== Sys2Proof/Safety.lean ====
section
/-! DEFINITION. The terms in which claims about the block are made: what a safe run is (spec/60_exceptions.md R812,
R818, R840), the invariants of the state, and the command lists the rules name. -/

namespace Sys2Proof.Machine

/-- The block runs. For a command sequence the premise is `State.runningThrough` (spec/60_exceptions.md R818). -/
abbrev State.Running (s : State) : Prop := s.mode = .run

/-- No spurious interrupt is to come: the named premise of spec/60_exceptions.md R812. -/
abbrev State.NoSpurious (s : State) : Prop := Input.spurious ∉ s.pending

/-- The commands that read or re-arm the capture buffer (spec/60_exceptions.md R805). -/
def usesCapture : Instr → Bool
  | .smpStart | .smpNext | .lvlRms | .lvlUpdate | .fftRun | .rdCap _ => true
  | .nop | .lvlFilt _ | .dbMap _ | .rndAct _ | .rndRef | .dbnStep _ _ | .rdStat | .rdSpec _ | .rdLvl _ _ => false
  | .sysReset | .sysHalt => false

/-- The commands that read ARG (spec/30_encoding.md R315). -/
def readsArg : Instr → Bool
  | .lvlFilt _ | .dbMap _ | .dbnStep _ _ => true
  | .nop | .smpStart | .smpNext | .lvlRms | .lvlUpdate | .fftRun | .rndAct _ | .rndRef | .rdStat | .rdSpec _ => false
  | .rdLvl _ _ | .rdCap _ | .sysReset | .sysHalt => false

/-- The commands whose rules write RESULT (spec/10_state.md R103); SYS.RESET sets it to its reset value. -/
def writesResult : Instr → Bool
  | .lvlRms | .lvlFilt _ | .lvlUpdate | .dbMap _ | .dbnStep _ _ | .rdStat | .rdSpec _ | .rdLvl _ _ | .rdCap _ => true
  | .sysReset => true
  | .nop | .smpStart | .smpNext | .fftRun | .rndAct _ | .rndRef | .sysHalt => false

/-- The readback commands (spec/20_memory.md R206). -/
def isReadback : Instr → Bool
  | .rdStat | .rdSpec _ | .rdLvl _ _ | .rdCap _ | .dbMap _ => true
  | .nop | .smpStart | .smpNext | .lvlRms | .lvlFilt _ | .lvlUpdate | .fftRun | .rndAct _ | .rndRef => false
  | .dbnStep _ _ | .sysReset | .sysHalt => false

/-- The operation loads a glyph. -/
def DisplayOp.isGlyph : DisplayOp → Bool
  | .glyph _ _ => true
  | .clear | .cursor _ _ | .char _ => false

/-- The operation writes a character. -/
def DisplayOp.isChar : DisplayOp → Bool
  | .char _ => true
  | .clear | .cursor _ _ | .glyph _ _ => false

/-- The operation places the cursor: the start of one FIELD (spec/43_renderer.md R604). -/
def DisplayOp.isCursor : DisplayOp → Bool
  | .cursor _ _ => true
  | .clear | .char _ | .glyph _ _ => false

/-- An operation the display accepts (spec/10_state.md R140): the cursor on the display, the slot in 0..6. -/
def DisplayOp.fits (p : Params) : DisplayOp → Bool
  | .clear => true
  | .cursor row col => decide (row < p.dispRows) && decide (col < p.dispCols)
  | .char _ => true
  | .glyph slot _ => decide (slot < Config.glyphSlots)

/-- One command executed n times, stopping at the first stop. -/
def execTimes : Nat → Instr → State → Host.Outcome State Fault Refusal
  | 0, _, s => .next s
  | n + 1, i, s =>
    match exec i s with
    | .next t => execTimes n i t
    | .fault r => .fault r
    | .refused r => .refused r

/-- r is the square root of q rounded down (spec/00_scope.md R11, spec/42_level.md R500). -/
abbrev RoundedRoot (r : Nat) (q : Int) : Prop := (r : Int) ^ 2 ≤ q ∧ q < ((r : Int) + 1) ^ 2

/-- sum of (CAPBUF[i] - MIDSCALE)^2 divided by N, rounded down (spec/42_level.md R500). -/
def meanSquare (s : State) : Int :=
  (s.mem.capbuf.map fun x => (x - s.params.midscale) ^ 2).sum / (s.params.captureLen : Int)

/-- The filter moves `out` to `new` under the input `raw` as spec/42_level.md R501 says: by the step
`|raw - out| * alpha / 1000`, rounded up (AWAY) or down (TRUNC), toward raw. -/
abbrev FilterMoves (round : LpfRound) (alpha raw out new : Nat) : Prop :=
  (raw = out → new = out) ∧
    (out < raw → new = out + match round with
      | .away => ((raw - out) * alpha + 999) / 1000
      | .trunc => (raw - out) * alpha / 1000) ∧
    (raw < out → new + (match round with
      | .away => ((out - raw) * alpha + 999) / 1000
      | .trunc => (out - raw) * alpha / 1000) = out)

/-- r is the counter the scan of spec/42_level.md R502 returns for a supported cell count: `cells - r` thresholds, at the
stride floor(T / cells) from index 0, lie above the value, and the next one, if r > 0, does not. -/
abbrev ScanResult (p : Params) (value cells r : Nat) : Prop :=
  r ≤ cells ∧ (∀ j, j < cells - r → value < dbtAt p (j * (p.dbt.length / cells))) ∧
    (0 < r → dbtAt p ((cells - r) * (p.dbt.length / cells)) ≤ value)

/-- The words with opcode `op` are the one word w0 of the command i; every other is illegal (spec/30_encoding.md R303,
R313). -/
abbrev OnlyWord (op : Nat) (i : Instr) (w0 : CmdWord) : Prop :=
  encode i = w0 ∧ ∀ w : CmdWord, w.field 15 12 = op → if w = w0 then decode w = .ok i else ∃ e, decode w = .error e

/-- Every register holds its value of spec/10_state.md R147. -/
structure State.AtReset (t : State) : Prop where
  result : t.result = 0
  mode : t.mode = .run
  fcode : t.fcode = .none
  fcmd : t.fcmd = 0
  capbuf : t.mem.capbuf.length = t.params.captureLen ∧ ∀ k, t.mem.readCap k = 0
  busy : t.busy = false
  idx : t.idx = 0
  ch : t.ch = .left
  spec : t.mem.spec.length = t.params.binCount ∧ ∀ k, t.mem.readSpec k = 0
  level : ∀ c, t.level.get c = 0
  lpf : ∀ c, t.lpf.get c = 0
  alphaM : ∀ c, (t.alphaM.get c).toNat = 1000 * t.params.weight.get c / (t.params.weight.get c + 1)
  meter : t.meter = .fftVertical
  active : t.active = false
  vph : t.vph = .blankA
  vcnt : t.vcnt = 0
  stable : ∀ b, (t.buttons.get b).stable = false
  armed : ∀ b, (t.buttons.get b).armed = false
  ts : ∀ b, (t.buttons.get b).ts = 0
  toRise : ∀ b, (t.buttons.get b).toRise = t.params.debounceTimeout
  toFall : ∀ b, (t.buttons.get b).toFall = t.params.debounceTimeout
  lastOut : ∀ b, (t.buttons.get b).lastOut = false

/-- The fields of the status word (spec/10_state.md R145). -/
structure State.StatusFields (s : State) (v : Word32) : Prop where
  busy : v.extractLsb' 0 1 = BitVec.ofBool s.busy
  ch : v.extractLsb' 1 1 = channelBits s.ch
  active : v.extractLsb' 2 1 = BitVec.ofBool s.active
  meter : v.extractLsb' 3 2 = s.meter.bits
  vph : v.extractLsb' 5 2 = s.vph.bits
  zero7 : v.extractLsb' 7 1 = 0
  idx : v.extractLsb' 8 13 = s.idx
  stable0 : v.extractLsb' 21 1 = BitVec.ofBool (s.buttons.get .up).stable
  stable1 : v.extractLsb' 22 1 = BitVec.ofBool (s.buttons.get .down).stable
  stable2 : v.extractLsb' 23 1 = BitVec.ofBool (s.buttons.get .select).stable
  mode : v.extractLsb' 24 2 = s.mode.bits
  zero26 : v.extractLsb' 26 2 = 0
  fcode : v.extractLsb' 28 4 = s.fcode.bits

/-- One call of debounce1 for a button (spec/44_debounce.md R701, R702, R703, R705): from the registers d to d', with the
logical input lg at time now, returning out. -/
abbrev DebounceCall (d d' : Debouncer) (bypass lg : Bool) (now : Word32) (out : Bool) : Prop :=
  (bypass = true → d' = { d with lastOut := lg } ∧ out = lg) ∧
    (bypass = false → lg = d.stable → d' = { d with armed := false, ts := 0, lastOut := d.stable } ∧ out = d.stable) ∧
    (bypass = false → lg ≠ d.stable →
      if (if lg then d.toRise else d.toFall).toNat ≤ (now - (if d.armed then d.ts else now)).toNat then
        d' = { d with stable := lg, armed := false, ts := 0, lastOut := lg } ∧ out = lg
      else
        d' = { d with armed := true, ts := if d.armed then d.ts else now, lastOut := d.stable } ∧ out = d.stable)

/-- The next move is a reset: RST_N, or the word of SYS.RESET (spec/70_reset_and_hazards.md R900). -/
abbrev State.ResetNext (s : State) : Prop :=
  s.pending.head? = some .resetAsserted ∨ ∃ a, s.pending.head? = some (.command 0xF000 a)

/-- The capture invariant (spec/10_state.md R110, R114): CAPBUF holds N samples of SW bits and SPEC N/2 bins, a capture
in progress has room for its next sample, and no capture in progress means none since reset or a complete one. -/
abbrev State.CaptureInv (s : State) : Prop :=
  s.mem.wf s.params ∧ (s.busy = true → s.idx.toNat < s.params.captureLen) ∧
    (s.busy = false → s.idx.toNat = 0 ∨ s.idx.toNat = s.params.captureLen)

/-- What FCMD holds beside each cause code (spec/60_exceptions.md R801): the word that is illegal, the word of a command
that uses the capture buffer, RND.REF's word, SYS.HALT's word, or 0. -/
def recordedWord : FaultCode → CmdWord → Bool
  | .none, w => w == 0
  | .illegalCmd, w => (decode w).toOption.isNone
  | .busyViolation, w => (decode w).toOption.any usesCapture
  | .notActive, w => w == 0x9000
  | .fatalHalt, w => w == 0xF001
  | .fatalSpurious, w => w == 0

/-- MODE, FCODE and FCMD agree (spec/60_exceptions.md R801). -/
abbrev State.FaultInv (s : State) : Prop := s.mode = s.fcode.mode ∧ recordedWord s.fcode s.fcmd = true

/-- The outcomes of the runs before this one are faults with agreeing codes (spec/60_exceptions.md R801, R818; log 8). -/
abbrev State.HistoryInv (s : State) : Prop :=
  ∀ o ∈ s.endedRuns, o.mode ≠ .run ∧ o.mode = o.fcode.mode ∧ recordedWord o.fcode o.fcmd = true

/-- The registers loaded at reset and never written hold their values (spec/10_state.md R123, R138). -/
abbrev State.ConstantInv (s : State) : Prop :=
  (∀ c, (s.alphaM.get c).toNat = s.params.alpha c) ∧
    ∀ b, (s.buttons.get b).toRise = s.params.debounceTimeout ∧ (s.buttons.get b).toFall = s.params.debounceTimeout

/-- An idle debounce timer has timestamp 0 (spec/10_state.md R137). -/
abbrev State.TimerInv (s : State) : Prop := ∀ b, (s.buttons.get b).armed = false → (s.buttons.get b).ts = 0

/-- The VU_LINES counter is below the length of its phase, and no style is selected before the first activation
(spec/10_state.md R131-R133). -/
abbrev State.MeterInv (s : State) : Prop :=
  s.vcnt.toNat < phaseLength s.params s.vph ∧
    (s.active = false → s.meter = .fftVertical ∧ s.vph = .blankA ∧ s.vcnt = 0)

/-- SPEC[0] is 0 and the raw levels are within the range of the RMS (spec/10_state.md R120, spec/42_level.md R500). -/
abbrev State.AnalysisInv (s : State) : Prop :=
  s.mem.readSpec 0 = 0 ∧ ∀ c, (s.level.get c).toNat ≤ 2 ^ s.params.sw

/-- Every display operation put out fits the display (spec/10_state.md R140). -/
abbrev State.OutputInv (s : State) : Prop := ∀ op ∈ s.dout, op.fits s.params = true

/-- No transaction is in flight between two steps (spec/10_state.md R101, R102; log 4). -/
abbrev State.PortInv (s : State) : Prop := s.cmd = 0 ∧ s.arg = 0

/-- Every invariant of the state, for parameters that meet the constraints of spec/00_scope.md R8. -/
structure State.Inv (s : State) : Prop where
  params : s.params.Valid
  capture : s.CaptureInv
  fault : s.FaultInv
  history : s.HistoryInv
  constant : s.ConstantInv
  timer : s.TimerInv
  meter : s.MeterInv
  analysis : s.AnalysisInv
  output : s.OutputInv
  port : s.PortInv

end Sys2Proof.Machine
end

