-- ==== Sys2Proof/Certificates/Slice0/Obligations.lean ====
section
/-! DEFINITION. The statements for the provers, from the numbered rules of spec/. Each docstring names what it formalises. -/

open Sys2Proof Sys2Proof.Machine

/-! Encoding (spec/30_encoding.md) -/

/-- Decoding the word of a well-formed command gives the command back, with every operand at every value (sections 2-4). -/
def Obligations.DecodeInvertsEncode : Prop :=
  ∀ i : Instr, i.wellFormed = true → decode (encode i) = .ok i

/-- A word that decodes is the word of the command it decodes to, and that command is well-formed (sections 2-4). -/
def Obligations.EncodeInvertsDecode : Prop :=
  ∀ (w : CmdWord) (i : Instr), decode w = .ok i → i.wellFormed = true ∧ encode i = w

/-- Which words are illegal (section 5), by reserved bits and sub and, equivalently, by the rows of the opcode map; and what an
illegal word does in MODE = RUN (the ports hold 0 after a transaction, log 4). -/
def Obligations.IllegalWordsFaultAndNothingElse : Prop :=
  (∀ w : CmdWord, (∃ e, decode w = .error e) ↔
      (w &&& reservedMask (w.field 15 12) ≠ 0 ∨ (w.field 15 12 = 0xF ∧ 2 ≤ w.field 3 0))) ∧
    (∀ w : CmdWord, (∃ i, decode w = .ok i) ↔ ∃! r, r ∈ opcodeMap ∧ w &&& r.mask = r.pattern) ∧
    ∀ (s : State) (w : CmdWord) (a : Word32) (rest : List Input) (e : DecodeError),
      s.pending = .command w a :: rest → s.mode = .run → decode w = .error e →
        step s = .next { s with
          pending := rest, cmd := 0, arg := 0, mode := .faulted, fcode := .illegalCmd, fcmd := w }

/-- Words of the assembler table (section 7) and of the vectors ENC-1, ENC-4, ENC-6, ENC-8, ENC-10, ENC-12, ENC-13 and ENC-16
decode to their commands, and those of ENC-2 and ENC-17 are illegal. The names of the two ways of being illegal are the
model's choice (log 21). -/
def Obligations.WrittenWordsDecode : Prop :=
  decode 0x0000 = .ok .nop ∧ decode 0x1000 = .ok .smpStart ∧ decode 0x4001 = .ok (.lvlFilt .right) ∧
    decode 0x6000 = .ok .fftRun ∧ decode 0x703F = .ok (.dbMap 63) ∧ decode 0x800F = .ok (.rndAct 15) ∧
    decode 0xA006 = .ok (.dbnStep 0b000 0b110) ∧ decode 0xD002 = .ok (.rdLvl .filtered .left) ∧
    decode 0xA03F = .ok (.dbnStep 0b111 0b111) ∧ decode 0xD003 = .ok (.rdLvl .filtered .right) ∧
    decode 0xCFFF = .ok (.rdSpec 4095) ∧ decode 0xF001 = .ok .sysHalt ∧
    decode 0x0001 = .error .reservedBits ∧ decode 0xF002 = .error .reservedSub

/-! The step and the events -/

/-- A step whose next move is a legal transaction runs the decoded command with the transaction in the port registers,
and leaves none in flight (R300; log 4). -/
def Obligations.StepRunsDecodedCommand : Prop :=
  ∀ (s : State) (w : CmdWord) (a : Word32) (rest : List Input) (i : Instr),
    s.pending = .command w a :: rest → decode w = .ok i →
      ∃ t, exec i { s with pending := rest, cmd := w, arg := a } = .next t ∧
        step s = .next { t with cmd := 0, arg := 0 }

/-- With no move to come the block waits (R903; the model's choice, log 2). -/
def Obligations.EmptyScheduleWaits : Prop :=
  ∀ s : State, s.pending = [] → step s = .next s

/-- R421: an enabled sample event stores the sample at IDX, counts it, and clears BUSY with the last one. -/
def Obligations.SampleEventStoresOneSample : Prop :=
  ∀ (s : State) (v : Int) (rest : List Input),
    s.pending = .sample v :: rest → s.mode = .run → s.busy = true → s.params.Valid → s.CaptureInv →
    s.params.SampleInRange v →
      ∃ t, step s = .next t ∧ t.mem.readCap s.idx.toNat = v ∧
        (∀ k, k ≠ s.idx.toNat → t.mem.readCap k = s.mem.readCap k) ∧
        t.mem.capbuf.length = s.mem.capbuf.length ∧ t.mem.spec = s.mem.spec ∧
        t.idx.toNat = s.idx.toNat + 1 ∧ (t.busy = false ↔ t.idx.toNat = s.params.captureLen) ∧
        t = { s with pending := rest, mem := t.mem, idx := t.idx, busy := t.busy }

/-- No sample is taken while no capture is armed or the block is not in RUN (R420, R423; that a move of the schedule
that is not enabled passes without effect is the model's choice, log 5). -/
def Obligations.NoSampleWithoutArmedCapture : Prop :=
  ∀ (s : State) (v : Int) (rest : List Input),
    s.pending = .sample v :: rest → (s.mode ≠ .run ∨ s.busy = false) → step s = .next { s with pending := rest }

/-- R812: the spurious-interrupt event halts the block from RUN and from FAULTED, with the diagnostic of R810, and has no
effect in HALTED. -/
def Obligations.SpuriousInterruptHalts : Prop :=
  ∀ (s : State) (rest : List Input), s.pending = .spurious :: rest →
    (s.mode = .halted → step s = .next { s with pending := rest }) ∧
    (s.mode ≠ .halted → step s = .next { s with
      pending := rest, mode := .halted, fcode := .fatalSpurious, fcmd := 0,
      dout := s.dout ++ [.clear, .cursor 0 0] ++ s.params.diagText.map .char })

/-- R901, R902: the reset action, by RST_N in every mode and by SYS.RESET outside HALTED, gives every register its value
of R147 and leaves DOUT (and the parameters) as they are. -/
def Obligations.ResetSetsEveryRegister : Prop :=
  (∀ (s : State) (rest : List Input), s.pending = .resetAsserted :: rest →
    ∃ t, step s = .next t ∧ t.AtReset ∧ t.dout = s.dout ∧ t.params = s.params ∧ t.pending = rest) ∧
  ∀ s : State, s.mode ≠ .halted →
    ∃ t, exec .sysReset s = .next t ∧ t.AtReset ∧ t.dout = s.dout ∧ t.params = s.params ∧ t.pending = s.pending

/-- The reset table (spec/10_state.md section 11): the state after reset, for every parameters. That State.reset
takes REF is the model's choice (log 1). -/
def Obligations.ResetStateHoldsTheTableValues : Prop :=
  State.reset.AtReset ∧ ∀ p : Params, (State.resetWith p).AtReset ∧ (State.resetWith p).params = p

/-! Faults and modes (spec/60_exceptions.md) -/

/-- What each move does in MODE = FAULTED (section 1, Behaviour in MODE = FAULTED). (The conversion source has no step then: a sample move that stands in the
schedule all the same passes, the form of log 5; the ports hold 0 after a transaction, log 4.) -/
def Obligations.FaultedBlockOnlyReadsStatusOrResets : Prop :=
  ∀ (s : State) (rest : List Input), s.mode = .faulted →
    (∀ a, s.pending = .command 0xB000 a :: rest →
      step s = .next { s with pending := rest, cmd := 0, arg := 0, result := s.statusWord }) ∧
    (∀ a, s.pending = .command 0xF000 a :: rest →
      ∃ t, step s = .next t ∧ t.AtReset ∧ t.dout = s.dout ∧ t.params = s.params) ∧
    (∀ w a, w ≠ 0xB000 → w ≠ 0xF000 → s.pending = .command w a :: rest →
      step s = .next { s with pending := rest, cmd := 0, arg := 0 }) ∧
    (∀ v, s.pending = .sample v :: rest → step s = .next { s with pending := rest }) ∧
    (s.pending = .spurious :: rest → ∃ t, step s = .next t ∧ t.mode = .halted ∧ t.fcode = .fatalSpurious)

/-- What each move does in MODE = HALTED (section 2, Behaviour in MODE = HALTED). (Sample moves and the ports as in
the statement before, logs 5 and 4.) -/
def Obligations.HaltedBlockOnlyReadsStatus : Prop :=
  ∀ (s : State) (rest : List Input), s.mode = .halted →
    (∀ a, s.pending = .command 0xB000 a :: rest →
      step s = .next { s with pending := rest, cmd := 0, arg := 0, result := s.statusWord }) ∧
    (∀ w a, w ≠ 0xB000 → s.pending = .command w a :: rest →
      step s = .next { s with pending := rest, cmd := 0, arg := 0 }) ∧
    (∀ v, s.pending = .sample v :: rest → step s = .next { s with pending := rest }) ∧
    (s.pending = .spurious :: rest → step s = .next { s with pending := rest }) ∧
    (s.pending = .resetAsserted :: rest → ∃ t, step s = .next t ∧ t.AtReset)

/-- R805: the six commands that use the capture buffer fault while BUSY = 1 and do nothing else; every other command is
legal then (none but RND.REF before an activation faults). -/
def Obligations.CaptureCommandsFaultWhileBusy : Prop :=
  ∀ (i : Instr) (s : State), s.mode = .run → s.busy = true →
    (usesCapture i = true →
      exec i s = .next { s with mode := .faulted, fcode := .busyViolation, fcmd := s.cmd }) ∧
    (usesCapture i = false →
      ∃ t, exec i s = .next t ∧ (t.mode = .faulted → i = .rndRef ∧ s.active = false))

/-- Section 1, fault entry: a step enters FAULTED only from RUN and by a command, never by an event; it writes MODE, FCODE (one of
three codes) and FCMD (the command word), and nothing else (the ports hold 0 after a transaction, log 4). -/
def Obligations.FaultEntryIsPrecise : Prop :=
  ∀ s t : State, step s = .next t → s.mode ≠ .faulted → t.mode = .faulted →
    s.mode = .run ∧ ∃ w a rest code, s.pending = .command w a :: rest ∧
      code ∈ [FaultCode.illegalCmd, .busyViolation, .notActive] ∧
      t = { s with pending := rest, cmd := 0, arg := 0, mode := .faulted, fcode := code, fcmd := w }

/-- The check order in MODE = RUN: illegal word, then BUSY_VIOLATION, then NOT_ACTIVE, and otherwise no protocol fault
(section 1). -/
def Obligations.FirstApplicableCheckFaults : Prop :=
  ∀ (s : State) (w : CmdWord) (a : Word32) (rest : List Input),
    s.pending = .command w a :: rest → s.mode = .run →
      ∃ t, step s = .next t ∧
        match decode w with
        | .error _ => t.mode = .faulted ∧ t.fcode = .illegalCmd
        | .ok i =>
          if usesCapture i = true ∧ s.busy = true then t.mode = .faulted ∧ t.fcode = .busyViolation
          else if i = .rndRef ∧ s.active = false then t.mode = .faulted ∧ t.fcode = .notActive
          else t.mode ≠ .faulted

/-- No step but a reset leads back to RUN, and only RST_N leaves HALTED. Such a reset ends the run: it starts a new one at the
reset values and keeps the outcome of the one it ends; no other step touches the outcomes or returns to RUN. Within one run
FCODE is never cleared, and a run in RUN throughout is not cut (section 3, Trap return and nesting, and How a model treats a
fault; the list of outcomes is the model's form, log 8). -/
def Obligations.OnlyResetLeavesFaultedOrHalted : Prop :=
  (∀ s t : State, step s = .next t →
    (s.mode = .faulted → t.mode = .run → s.ResetNext) ∧
    (s.mode = .halted → t.mode ≠ .halted → s.pending.head? = some .resetAsserted) ∧
    (s.endsRun = true → t.AtReset ∧ t.endedRuns = s.endedRuns ++ [⟨s.mode, s.fcode, s.fcmd⟩]) ∧
    (s.endsRun = false → t.endedRuns = s.endedRuns ∧ (s.mode ≠ .run → t.mode ≠ .run))) ∧
  (∀ (n : Nat) (s t : State), runWithin n s = .next t →
    t.endedRuns = s.endedRuns ∧ (s.mode ≠ .run → t.mode ≠ .run) ∧
      (s.FaultInv → s.fcode ≠ .none → t.fcode ≠ .none)) ∧
  ∀ (n : Nat) (s : State), s.runningThrough n = true → runWithin n s = Sys2Proof.core.run n s

/-! Sampler (spec/40_sampler.md) and system commands (spec/45_system.md) -/

/-- R750: NOP and its word. -/
def Obligations.NopChangesNothing : Prop :=
  OnlyWord 0x0 .nop 0x0000 ∧ ∀ s : State, exec .nop s = .next s

/-- R400: SMP.START arms a capture cycle on the current channel, or faults while BUSY = 1. -/
def Obligations.SmpStartArmsCapture : Prop :=
  OnlyWord 0x1 .smpStart 0x1000 ∧ ∀ s : State, s.mode = .run →
    (s.busy = false → exec .smpStart s = .next { s with idx := 0, busy := true }) ∧
    (s.busy = true → exec .smpStart s =
      .next { s with mode := .faulted, fcode := .busyViolation, fcmd := s.cmd })

/-- R401: SMP.NEXT toggles the channel and arms a capture cycle, or faults while BUSY = 1. -/
def Obligations.SmpNextTogglesAndArms : Prop :=
  OnlyWord 0x2 .smpNext 0x2000 ∧ ∀ s : State, s.mode = .run →
    (s.busy = false → exec .smpNext s =
      .next { s with ch := if s.ch = .left then .right else .left, idx := 0, busy := true }) ∧
    (s.busy = true → exec .smpNext s =
      .next { s with mode := .faulted, fcode := .busyViolation, fcmd := s.cmd })

/-- R402: RD.CAP k reads a sample sign-extended, 0 out of range, or faults while BUSY = 1. -/
def Obligations.RdCapReadsSignExtendedSample : Prop :=
  (∀ w : CmdWord, w.field 15 12 = 0xE → decode w = .ok (.rdCap (w.field 11 0))) ∧
  ∀ (s : State) (k : Nat), s.mode = .run →
    (s.busy = false → ∃ t, exec (.rdCap k) s = .next t ∧ t = { s with result := t.result } ∧
      (k < s.params.captureLen → s.params.Valid → s.mem.wf s.params → t.result.toInt = s.mem.readCap k) ∧
      (s.params.captureLen ≤ k → t.result = 0)) ∧
    (s.busy = true → exec (.rdCap k) s =
      .next { s with mode := .faulted, fcode := .busyViolation, fcmd := s.cmd })

/-- R751, R145: RD.STAT reads the status word in every mode. -/
def Obligations.RdStatReadsStatusFields : Prop :=
  OnlyWord 0xB .rdStat 0xB000 ∧
    ∀ s : State, ∃ t, exec .rdStat s = .next t ∧ t = { s with result := t.result } ∧ s.StatusFields t.result

/-- R752: SYS.RESET resets in RUN and FAULTED and does nothing in HALTED; R753's and its words are the only ones of the
opcode. -/
def Obligations.SysResetResetsUnlessHalted : Prop :=
  (encode .sysReset = 0xF000 ∧ ∀ w : CmdWord, w.field 15 12 = 0xF →
    if w = 0xF000 then decode w = .ok .sysReset
    else if w = 0xF001 then decode w = .ok .sysHalt else ∃ e, decode w = .error e) ∧
  ∀ s : State,
    (s.mode ≠ .halted → ∃ t, exec .sysReset s = .next t ∧ t.AtReset ∧ t.dout = s.dout ∧ t.params = s.params) ∧
    (s.mode = .halted → exec .sysReset s = .next s)

/-- R753, R810: SYS.HALT enters the fatal halt from RUN, with the diagnostic on DOUT and its word in FCMD, and has no
effect in the other modes. -/
def Obligations.SysHaltEntersFatalHalt : Prop :=
  (encode .sysHalt = 0xF001 ∧ ∀ w : CmdWord, decode w = .ok .sysHalt → w = 0xF001) ∧
  ∀ s : State,
    (s.mode = .run → s.cmd = 0xF001 → exec .sysHalt s = .next { s with
      mode := .halted, fcode := .fatalHalt, fcmd := 0xF001,
      dout := s.dout ++ [.clear, .cursor 0 0] ++ s.params.diagText.map .char }) ∧
    (s.mode = .run → ∃ t, exec .sysHalt s = .next t ∧ t = { s with
      mode := .halted, fcode := .fatalHalt, fcmd := s.cmd,
      dout := s.dout ++ [.clear, .cursor 0 0] ++ s.params.diagText.map .char }) ∧
    (s.mode ≠ .run → exec .sysHalt s = .next s)

/-! Spectral analyzer (spec/41_spectral.md) -/

/-- R450: FFT.RUN writes every bin of SPEC from FFT_MAG and SMOOTH, saturated, with bin 0 forced to 0, and nothing else;
it faults while BUSY = 1. -/
def Obligations.FftRunWritesEveryBin : Prop :=
  OnlyWord 0x6 .fftRun 0x6000 ∧ ∀ s : State, s.mode = .run →
    (s.busy = false → s.mem.wf s.params →
      ∃ t, exec .fftRun s = .next t ∧ t = { s with mem := t.mem } ∧ t.mem.capbuf = s.mem.capbuf ∧
        t.mem.spec.length = s.params.binCount ∧ t.mem.readSpec 0 = 0 ∧
        ∀ k, 0 < k → k < s.params.binCount → (t.mem.readSpec k).toNat =
          min ((smoothed s.params ((fftMagnitudes s.params s.mem.capbuf).set 0 0)).getD k 0) (2 ^ 32 - 1)) ∧
    (s.busy = true → exec .fftRun s =
      .next { s with mode := .faulted, fcode := .busyViolation, fcmd := s.cmd })

/-- Bin 0 is 0 after every analysis, and a second FFT.RUN leaves the same state (section "Properties"). -/
def Obligations.FftRunIsRepeatable : Prop :=
  ∀ s : State, s.mode = .run → s.busy = false →
    ∃ t, exec .fftRun s = .next t ∧ t.mem.readSpec 0 = 0 ∧ exec .fftRun t = .next t

/-- The reference transform of a buffer with one sample v and zeros elsewhere has magnitude |v| at every bin: the exact
DFT magnitude of an impulse (the reference instance of section 1, vector FFT-5). -/
def Obligations.ReferenceImpulseIsFlat : Prop :=
  ∀ (p : Params) (v : Int) (n k : Nat), p.Valid → p.fftMag = .reference → n < p.captureLen → k < p.binCount →
    (fftMagnitudes p ((List.replicate p.captureLen 0).set n v)).getD k 0 = v.natAbs

/-- The reference transform of a buffer that holds one value everywhere has magnitude 0 at every bin but bin 0: the exact
DFT of a constant (the reference instance of section 1, vectors FFT-1 and FFT-2). -/
def Obligations.ReferenceConstantHasNoBins : Prop :=
  ∀ (p : Params) (v : Int) (k : Nat), p.Valid → p.fftMag = .reference → 0 < k → k < p.binCount →
    (fftMagnitudes p (List.replicate p.captureLen v)).getD k 0 = 0

/-- R455: RD.SPEC k reads a bin, 0 out of range, whatever BUSY is. -/
def Obligations.RdSpecReadsBin : Prop :=
  (∀ w : CmdWord, w.field 15 12 = 0xC → decode w = .ok (.rdSpec (w.field 11 0))) ∧
  ∀ (s : State) (k : Nat), s.mode = .run →
    exec (.rdSpec k) s = .next { s with result := if k < s.params.binCount then s.mem.readSpec k else 0 }

/-! Level meter (spec/42_level.md) -/

/-- R510, R500: LVL.RMS writes the rounded-down root of the rounded-down mean square to LEVEL[CH] and RESULT. -/
def Obligations.LvlRmsMeasuresChannel : Prop :=
  OnlyWord 0x3 .lvlRms 0x3000 ∧ ∀ s : State, s.mode = .run →
    (s.busy = false → s.params.Valid → s.mem.wf s.params →
      ∃ r : Word32, exec .lvlRms s = .next { s with level := s.level.set s.ch r, result := r } ∧
        RoundedRoot r.toNat (meanSquare s) ∧ r.toNat ≤ 2 ^ s.params.sw) ∧
    (s.busy = true → exec .lvlRms s =
      .next { s with mode := .faulted, fcode := .busyViolation, fcmd := s.cmd })

/-- R511, R501: LVL.FILT c moves LPF[c] toward ARG by the rounded step, without a wrap, whatever BUSY is. -/
def Obligations.LvlFiltMovesTowardArg : Prop :=
  (∀ w : CmdWord, w.field 15 12 = 0x4 →
    if w.field 11 1 = 0 then decode w = .ok (.lvlFilt (if w.field 0 0 = 0 then .left else .right))
    else ∃ e, decode w = .error e) ∧
  ∀ (s : State) (c : Channel), s.mode = .run → (s.alphaM.get c).toNat < 1000 →
    ∃ f : Word32, exec (.lvlFilt c) s = .next { s with lpf := s.lpf.set c f, result := f } ∧
      FilterMoves s.params.lpfRound (s.alphaM.get c).toNat s.arg.toNat (s.lpf.get c).toNat f.toNat

/-- R512: LVL.UPDATE writes the RMS to LEVEL[CH], filters LPF[CH] with it, and returns LPF[CH]. -/
def Obligations.LvlUpdateMeasuresAndFilters : Prop :=
  OnlyWord 0x5 .lvlUpdate 0x5000 ∧ ∀ s : State, s.mode = .run →
    (s.busy = false → s.params.Valid → s.mem.wf s.params → (s.alphaM.get s.ch).toNat < 1000 →
      ∃ r f : Word32,
        exec .lvlUpdate s =
          .next { s with level := s.level.set s.ch r, lpf := s.lpf.set s.ch f, result := f } ∧
        RoundedRoot r.toNat (meanSquare s) ∧
        FilterMoves s.params.lpfRound (s.alphaM.get s.ch).toNat r.toNat (s.lpf.get s.ch).toNat f.toNat) ∧
    (s.busy = true → exec .lvlUpdate s =
      .next { s with mode := .faulted, fcode := .busyViolation, fcmd := s.cmd })

/-- R502: the dB map returns the counter of the scan, and 0 for an unsupported cell count. -/
def Obligations.DbmapReturnsScanCounter : Prop :=
  ∀ (p : Params) (value cells : Nat),
    (cells ∈ [50, 10, 7] → ScanResult p value cells (dbmap p value cells)) ∧
    (cells ∉ [50, 10, 7] → dbmap p value cells = 0)

/-- The dB map is non-decreasing in the value, bounded by the cell count, and full exactly from DBT[0] on (section 1,
properties of dbmap). -/
def Obligations.DbmapIsMonotoneAndBounded : Prop :=
  ∀ (p : Params) (value value' cells : Nat), value ≤ value' →
    dbmap p value cells ≤ dbmap p value' cells ∧ dbmap p value cells ≤ cells ∧
      (cells ∈ [50, 10, 7] → (dbmap p value cells = cells ↔ dbtAt p 0 ≤ value))

/-- R513: DB.MAP cells returns the dB map of ARG, whatever BUSY is. -/
def Obligations.DbMapReturnsMapOfArg : Prop :=
  (∀ w : CmdWord, w.field 15 12 = 0x7 →
    if w.field 11 6 = 0 then decode w = .ok (.dbMap (w.field 5 0)) else ∃ e, decode w = .error e) ∧
  ∀ (s : State) (cells : Nat), s.mode = .run →
    ∃ t, exec (.dbMap cells) s = .next t ∧ t = { s with result := t.result } ∧
      t.result.toNat = dbmap s.params s.arg.toNat cells

/-- R514: RD.LVL f, c reads the raw or the filtered level of a channel, whatever BUSY is. -/
def Obligations.RdLvlReadsSelectedLevel : Prop :=
  (∀ w : CmdWord, w.field 15 12 = 0xD →
    if w.field 11 2 = 0 then
      decode w = .ok (.rdLvl (if w.field 1 1 = 0 then .raw else .filtered) (if w.field 0 0 = 0 then .left else .right))
    else ∃ e, decode w = .error e) ∧
  ∀ (s : State) (c : Channel), s.mode = .run →
    exec (.rdLvl .raw c) s = .next { s with result := s.level.get c } ∧
    exec (.rdLvl .filtered c) s = .next { s with result := s.lpf.get c }

/-- One update never passes its input, and leaves an output equal to its input (section 1, properties of lpf). -/
def Obligations.FilterNeverOvershoots : Prop :=
  ∀ (s t : State) (c : Channel), s.mode = .run → (s.alphaM.get c).toNat < 1000 → exec (.lvlFilt c) s = .next t →
    min s.arg.toNat (s.lpf.get c).toNat ≤ (t.lpf.get c).toNat ∧
      (t.lpf.get c).toNat ≤ max s.arg.toNat (s.lpf.get c).toNat ∧
      (s.arg = s.lpf.get c → t.lpf.get c = s.lpf.get c)

/-- With LPF_ROUND = AWAY, repeated updates with one input reach it exactly, within as many updates as they are apart
(section 1, properties of lpf). -/
def Obligations.FilterConvergesToConstantInput : Prop :=
  ∀ (s : State) (c : Channel), s.mode = .run → s.params.lpfRound = .away →
    0 < (s.alphaM.get c).toNat → (s.alphaM.get c).toNat < 1000 →
      ∃ n t, n ≤ ((s.arg.toNat : Int) - (s.lpf.get c).toNat).natAbs ∧ execTimes n (.lvlFilt c) s = .next t ∧
        t.lpf.get c = s.arg

/-! Renderer (spec/43_renderer.md) -/

/-- R610, R611: RND.ACT t selects the style min(t, 2), restarts its state machine and performs its activation action,
whatever BUSY is. -/
def Obligations.RndActSelectsAndLoadsGlyphs : Prop :=
  (∀ w : CmdWord, w.field 15 12 = 0x8 →
    if w.field 11 4 = 0 then decode w = .ok (.rndAct (w.field 3 0)) else ∃ e, decode w = .error e) ∧
  ∀ s : State, s.mode = .run →
    exec (.rndAct 0) s = .next { s with
      meter := .fftVertical, active := true, vph := .blankA, vcnt := 0,
      dout := s.dout ++ s.params.glyphs.fftSet.zipIdx.map fun g => .glyph g.2 g.1 } ∧
    exec (.rndAct 1) s = .next { s with
      meter := .vuLines, active := true, vph := .blankA, vcnt := 0,
      dout := s.dout ++ (.cursor s.params.meterRow s.params.meterCol0 ::
        List.replicate 10 (.char s.params.spaceCode) ++ s.params.glyphs.vulUpper.zipIdx.map fun g => .glyph g.2 g.1) } ∧
    ∀ t, 2 ≤ t → exec (.rndAct t) s = .next { s with
      meter := .vuHarrow, active := true, vph := .blankA, vcnt := 0,
      dout := s.dout ++ s.params.glyphs.harrowSet.zipIdx.map fun g => .glyph g.2 g.1 }

/-- R807: RND.REF before any activation faults NOT_ACTIVE and draws nothing; its only word is 0x9000. -/
def Obligations.RefreshBeforeActivationFaults : Prop :=
  OnlyWord 0x9 .rndRef 0x9000 ∧ ∀ s : State, s.mode = .run → s.active = false →
    exec .rndRef s = .next { s with mode := .faulted, fcode := .notActive, fcmd := s.cmd }

/-- R621: a refresh in FFT_VERTICAL draws one cell per run of three bins and changes nothing else. -/
def Obligations.FftRefreshDrawsRunHeights : Prop :=
  ∀ s : State, s.mode = .run → s.active = true → s.meter = .fftVertical →
    ∃ codes : List CharCode, exec .rndRef s = .next { s with
        dout := s.dout ++ .cursor s.params.meterRow s.params.meterCol0 :: codes.map .char } ∧
      codes.length = min (s.params.binCount / 3) (s.params.dispCols - s.params.meterCol0) ∧
      ∀ c, (h : c < codes.length) →
        let sum := (s.mem.readSpec (3 * c)).toNat + (s.mem.readSpec (3 * c + 1)).toNat +
          (s.mem.readSpec (3 * c + 2)).toNat
        codes[c] = if dbmap s.params sum 7 = 0 then s.params.spaceCode
          else glyphCode s.params (dbmap s.params sum 7 - 1)

/-- R607: the ten cells of a VU_LINES bar of length L. -/
def Obligations.VubarShowsFullPartialAndPadding : Prop :=
  ∀ (p : Params) (l : Nat), l ≤ 50 → (vubar p l).length = 10 ∧ ∀ j, (h : j < (vubar p l).length) →
    (vubar p l)[j] =
      if 5 * (j + 1) ≤ l then glyphCode p 4
      else if 5 * j < l then glyphCode p (l - 5 * j - 1)
      else p.spaceCode

/-- R623, R622: a refresh in VU_LINES draws the bar of its phase, counts the refresh, and at the end of the phase enters
the next one, with its blanking and glyph load. -/
def Obligations.VuLinesRefreshDrawsAndCounts : Prop :=
  ∀ s : State, s.mode = .run → s.active = true → s.meter = .vuLines → s.params.Valid →
    s.vcnt.toNat < phaseLength s.params s.vph →
    let bar := fun (level : Word32) => (.cursor s.params.meterRow s.params.meterCol0 ::
      (vubar s.params (dbmap s.params level.toNat 50)).map .char : List DisplayOp)
    let load := fun (set : List GlyphBits) => (.cursor s.params.meterRow s.params.meterCol0 ::
      List.replicate 10 (.char s.params.spaceCode) ++ set.zipIdx.map fun g => .glyph g.2 g.1 : List DisplayOp)
    let drawn := match s.vph with
      | .blankA | .blankB => []
      | .drawLeft => bar s.lpf.left
      | .drawRight => bar s.lpf.right
    ∃ t, exec .rndRef s = .next t ∧ t = { s with vph := t.vph, vcnt := t.vcnt, dout := t.dout } ∧
      (s.vcnt.toNat + 1 < phaseLength s.params s.vph →
        t.vph = s.vph ∧ t.vcnt.toNat = s.vcnt.toNat + 1 ∧ t.dout = s.dout ++ drawn) ∧
      (s.vcnt.toNat + 1 = phaseLength s.params s.vph →
        t.vcnt = 0 ∧ match s.vph with
          | .blankA => t.vph = .drawLeft ∧ t.dout = s.dout ++ drawn
          | .drawLeft => t.vph = .blankB ∧ t.dout = s.dout ++ drawn ++ load s.params.glyphs.vulLower
          | .blankB => t.vph = .drawRight ∧ t.dout = s.dout ++ drawn
          | .drawRight => t.vph = .blankA ∧ t.dout = s.dout ++ drawn ++ load s.params.glyphs.vulUpper)

/-- A VU_LINES phase lasts exactly PHASE_LEN refreshes, and then the next phase begins (section "Commands", the phases). -/
def Obligations.VuLinesPhaseLastsItsLength : Prop :=
  ∀ (s : State) (n : Nat), s.mode = .run → s.active = true → s.meter = .vuLines → s.params.Valid → s.vcnt = 0 →
    (n < phaseLength s.params s.vph →
      ∃ t, execTimes n .rndRef s = .next t ∧ t.vph = s.vph ∧ t.vcnt.toNat = n) ∧
    (n = phaseLength s.params s.vph →
      ∃ t, execTimes n .rndRef s = .next t ∧ t.vph = s.vph.next ∧ t.vcnt = 0)

/-- R624: a refresh in VU_HARROW draws ten cells from the two mapped levels, in the configured direction, and changes
nothing else. -/
def Obligations.HarrowRefreshDrawsBothLevels : Prop :=
  ∀ s : State, s.mode = .run → s.active = true → s.meter = .vuHarrow →
    ∃ codes : List CharCode, exec .rndRef s = .next { s with
        dout := s.dout ++ .cursor s.params.meterRow s.params.meterCol0 :: codes.map .char } ∧
      codes.length = 10 ∧ ∀ j, (h : j < codes.length) →
        let l := dbmap s.params s.lpf.left.toNat 10
        let r := dbmap s.params s.lpf.right.toNat 10
        let i := match s.params.harrowDir with
          | .ltr => j + 1
          | .rtl => 10 - j
        codes[j] = if i ≤ l ∧ i ≤ r then glyphCode s.params 2
          else if i ≤ r ∧ l < i then glyphCode s.params 0
          else if i ≤ l ∧ r < i then glyphCode s.params 1
          else s.params.spaceCode

/-- Glyphs are loaded only by RND.ACT and by a VU_LINES refresh that enters a blank phase; that refresh puts out two fields,
the bar and the blank field, of ten characters each, and every other refresh at most one, of at most max(FFTV_CELLS, 10)
characters (section "Commands", the VU_LINES refresh and the properties; the two fields are log 13). -/
def Obligations.GlyphsLoadOnlyOnActivationOrBlankEntry : Prop :=
  ∀ (i : Instr) (s t : State), exec i s = .next t →
    ∃ ops, t.dout = s.dout ++ ops ∧
      ((∃ op ∈ ops, op.isGlyph = true) →
        (∃ n, i = .rndAct n) ∨
          (i = .rndRef ∧ s.meter = .vuLines ∧ t.vph ≠ s.vph ∧ (t.vph = .blankA ∨ t.vph = .blankB))) ∧
      (i = .rndRef →
        if s.meter = .vuLines ∧ t.vph ≠ s.vph ∧ (t.vph = .blankA ∨ t.vph = .blankB) then
          ops.countP DisplayOp.isCursor = 2 ∧ ops.countP DisplayOp.isChar = 20
        else ops.countP DisplayOp.isCursor ≤ 1 ∧ ops.countP DisplayOp.isChar ≤ max s.params.fftCells 10)

/-! Debounce (spec/44_debounce.md) -/

/-- R700, R701, R703, R704, R705: DBN.STEP steps the three buttons, each by itself, and packs outputs and edges. -/
def Obligations.DbnStepDebouncesEachButton : Prop :=
  (∀ w : CmdWord, w.field 15 12 = 0xA →
    if w.field 11 6 = 0 then
      decode w = .ok (.dbnStep (BitVec.ofNat 3 (w.field 5 3)) (BitVec.ofNat 3 (w.field 2 0)))
    else ∃ e, decode w = .error e) ∧
  ∀ (s : State) (bypass pins : BitVec 3), s.mode = .run →
    ∃ t, exec (.dbnStep bypass pins) s = .next t ∧ t = { s with buttons := t.buttons, result := t.result } ∧
      (∀ b : Button, ∃ out : Bool,
        DebounceCall (s.buttons.get b) (t.buttons.get b) (bypass.getLsbD b.number) (!pins.getLsbD b.number) s.arg out ∧
        t.result.getLsbD b.number = out ∧
        t.result.getLsbD (3 + b.number) = (!(s.buttons.get b).lastOut && out) ∧
        t.result.getLsbD (6 + b.number) = ((s.buttons.get b).lastOut && !out)) ∧
      ∀ k, 9 ≤ k → t.result.getLsbD k = false

/-- An input that differs from the stable value is returned as the old value at every call before the timeout since the
call that first saw it, and as the new value at the first call from the timeout on (section "Properties"). -/
def Obligations.DebounceAcceptsExactlyAtTimeout : Prop :=
  ∀ (d : Debouncer) (lg : Bool) (t0 now : Word32) (times : List Word32),
    lg ≠ d.stable → d.armed = false →
    0 < (if lg then d.toRise else d.toFall).toNat →
    (∀ x ∈ times, (x - t0).toNat < (if lg then d.toRise else d.toFall).toNat) →
    (if lg then d.toRise else d.toFall).toNat ≤ (now - t0).toNat →
      let held := (t0 :: times).foldl (fun d x => d.step lg x) d
      held.stable = d.stable ∧ held.armed = true ∧ held.ts = t0 ∧ (held.step lg now).stable = lg

/-! The whole machine -/

/-- R114 as an invariant every step keeps (spec/10_state.md section 4). -/
def Obligations.StepKeepsCaptureInvariant : Prop :=
  ∀ s t : State, s.params.Valid → s.CaptureInv → step s = .next t → t.CaptureInv

/-- Every invariant of the state is kept by every step (spec/10_state.md sections 2-8, spec/60_exceptions.md section 1). The
ports at 0 between steps and the record of ended runs are the model's choice (logs 4, 8). -/
def Obligations.StepKeepsStateInvariant : Prop :=
  ∀ s t : State, s.Inv → step s = .next t → t.Inv

/-- Every invariant of the state holds after reset, for every parameters that meet their constraints (section 11). Of the
model's choice are the REF parameters of State.reset (log 1), the ports at 0, for which the spec gives no reset value (log 4),
and the empty record of ended runs (log 8). -/
def Obligations.ResetMeetsStateInvariant : Prop :=
  State.reset.Inv ∧ ∀ p : Params, p.Valid → (State.resetWith p).Inv

/-- From a state with the capture invariant a step never ends the run (spec/40_sampler.md section 2: no event writes
CAPBUF[N] or beyond). -/
def Obligations.CaptureInvariantNeverStops : Prop :=
  ∀ s : State, s.CaptureInv → ∃ t, step s = .next t

/-- DOUT is append-only: no step, a reset included, changes or removes an operation of it (spec/10_state.md section 8). -/
def Obligations.DisplayStreamIsAppendOnly : Prop :=
  ∀ s t : State, step s = .next t → ∃ ops, t.dout = s.dout ++ ops

/-- CAPBUF changes only by an enabled sample event or a reset, SPEC only by FFT.RUN or a reset (spec/20_memory.md
section 1). -/
def Obligations.IndexSpacesHaveOneWriter : Prop :=
  ∀ s t : State, step s = .next t → ¬ s.ResetNext →
    (t.mem.capbuf ≠ s.mem.capbuf →
      s.mode = .run ∧ s.busy = true ∧ ∃ v, s.pending.head? = some (.sample v)) ∧
    (t.mem.spec ≠ s.mem.spec →
      s.mode = .run ∧ s.busy = false ∧ ∃ a, s.pending.head? = some (.command 0x6000 a))

/-- BUSY falls only in the step that stores the last sample of the cycle, or by a reset (spec/20_memory.md section 4). -/
def Obligations.BusyFallsOnlyWithTheLastSample : Prop :=
  ∀ s t : State, step s = .next t → s.busy = true → t.busy = false → ¬ s.ResetNext →
    s.mode = .run ∧ s.idx.toNat + 1 = s.params.captureLen ∧ ∃ v, s.pending.head? = some (.sample v)

/-- An armed capture cycle completes with the samples it lacks: they stand in CAPBUF in order, BUSY is 0, IDX is N, and
nothing else has changed (spec/20_memory.md section 4, spec/40_sampler.md section 2). -/
def Obligations.CaptureCycleCompletes : Prop :=
  ∀ (s : State) (samples : List Int) (rest : List Input),
    s.params.Valid → s.CaptureInv → s.mode = .run → s.busy = true →
    s.idx.toNat + samples.length = s.params.captureLen → (∀ v ∈ samples, s.params.SampleInRange v) →
    s.pending = samples.map .sample ++ rest →
      ∃ t, Sys2Proof.core.run samples.length s = .next t ∧ t.busy = false ∧ t.idx.toNat = s.params.captureLen ∧
        t.mem.capbuf = s.mem.capbuf.take s.idx.toNat ++ samples ∧ t.mem.spec = s.mem.spec ∧
        t = { s with pending := rest, mem := t.mem, idx := t.idx, busy := t.busy }

/-- The parameters, ALPHA_M and the debounce timeouts never change (spec/10_state.md sections 5 and 7). That the parameters
stand in State is the model's choice (log 1). -/
def Obligations.ConstantsNeverChange : Prop :=
  ∀ s t : State, step s = .next t → s.ConstantInv →
    t.params = s.params ∧ t.alphaM = s.alphaM ∧
      ∀ b, (t.buttons.get b).toRise = (s.buttons.get b).toRise ∧ (t.buttons.get b).toFall = (s.buttons.get b).toFall

/-- RESULT changes only by a command whose rule names it or by a reset; no event writes it (spec/10_state.md section 2). -/
def Obligations.OnlyNamedCommandsWriteResult : Prop :=
  (∀ (i : Instr) (s t : State), exec i s = .next t → writesResult i = false → t.result = s.result) ∧
  ∀ (s t : State) (move : Input), s.pending.head? = some move → step s = .next t →
    ((∃ v, move = .sample v) ∨ move = .spurious) → t.result = s.result

/-- R315: ARG is read by three commands only; any other does the same whatever ARG is. -/
def Obligations.OtherCommandsIgnoreArg : Prop :=
  ∀ (i : Instr) (s t : State) (a : Word32), readsArg i = false → exec i s = .next t →
    exec i { s with arg := a } = .next { t with arg := a }

/-- The readback commands change RESULT only, where they do not fault, and may be repeated (spec/20_memory.md section 2,
side effects of reads). -/
def Obligations.ReadbacksAreIdempotent : Prop :=
  ∀ (i : Instr) (s t : State), isReadback i = true → (s.mode = .run → usesCapture i = true → s.busy = false) →
    exec i s = .next t →
    t = { s with result := t.result } ∧ exec i t = .next t
end

