-- ==== Sys2Proof/Laws/Arith.lean ====
section
/-! SUPPORT. The integer square root is the largest r with r*r ≤ n (spec/00_scope.md R11). -/

namespace Sys2Proof.Machine

/-- The bits still to try bracket the root. -/
theorem isqrtFrom_spec (n b r : Nat) (lo : r * r ≤ n) (hi : n < (r + 2 ^ b) * (r + 2 ^ b)) :
    isqrtFrom n b r * isqrtFrom n b r ≤ n ∧ n < (isqrtFrom n b r + 1) * (isqrtFrom n b r + 1) := by
  induction b generalizing r with
  | zero => exact ⟨lo, by simpa [isqrtFrom] using hi⟩
  | succ b ih =>
    have twice : r + 2 ^ (b + 1) = r + 2 ^ b + 2 ^ b := by rw [pow_succ]; omega
    unfold isqrtFrom
    split
    · next h => exact ih _ h (by rwa [twice] at hi)
    · next h => exact ih _ lo (by omega)

/-- The first bit tried is high enough. -/
theorem lt_isqrt_start (n : Nat) : n < (0 + 2 ^ (n.log2 / 2 + 1)) * (0 + 2 ^ (n.log2 / 2 + 1)) := by
  rw [zero_add, ← pow_add]
  exact lt_of_lt_of_le (Nat.lt_log2_self) (Nat.pow_le_pow_right (by omega) (by omega))

theorem isqrt_mul_self_le (n : Nat) : isqrt n * isqrt n ≤ n :=
  (isqrtFrom_spec n _ 0 (by simp) (lt_isqrt_start n)).1

theorem lt_succ_isqrt (n : Nat) : n < (isqrt n + 1) * (isqrt n + 1) :=
  (isqrtFrom_spec n _ 0 (by simp) (lt_isqrt_start n)).2

/-- A bound on the root from a bound on the number. -/
theorem isqrt_le_of_le_mul_self {n m : Nat} (h : n ≤ m * m) : isqrt n ≤ m :=
  Nat.mul_self_le_mul_self_iff.mp ((isqrt_mul_self_le n).trans h)

/-- Every number is the root of its square. -/
theorem isqrt_mul_self (m : Nat) : isqrt (m * m) = m := by
  have lo := isqrt_le_of_le_mul_self (Nat.le_refl (m * m))
  have hi := Nat.mul_self_lt_mul_self_iff.mp (lt_succ_isqrt (m * m))
  omega

end Sys2Proof.Machine
end

