-- ==== Sys2Proof/Laws/Memory.lean ====
section
/-! SUPPORT. Reads and writes of the index spaces (spec/20_memory.md R200, R205), and that every operation on them keeps
`Memory.wf`. -/

namespace Sys2Proof.Machine

@[simp] theorem Memory.readCap_writeCap_same (m : Memory) (k : Nat) (v : Int) (h : k < m.capbuf.length) :
    (m.writeCap k v).readCap k = v := by
  simp [Memory.readCap, Memory.writeCap, List.getD, h]

@[simp] theorem Memory.readCap_writeCap_other (m : Memory) (k j : Nat) (v : Int) (h : j ≠ k) :
    (m.writeCap k v).readCap j = m.readCap j := by
  simp [Memory.readCap, Memory.writeCap, List.getD, h.symm]

@[simp] theorem Memory.readSpec_writeCap (m : Memory) (k j : Nat) (v : Int) :
    (m.writeCap k v).readSpec j = m.readSpec j := rfl

@[simp] theorem Memory.readCap_writeSpec (m : Memory) (bins : List Word32) (k : Nat) :
    (m.writeSpec bins).readCap k = m.readCap k := rfl

@[simp] theorem Memory.readSpec_writeSpec (m : Memory) (bins : List Word32) (k : Nat) :
    (m.writeSpec bins).readSpec k = bins.getD k 0 := rfl

@[simp] theorem Memory.length_capbuf_writeCap (m : Memory) (k : Nat) (v : Int) :
    (m.writeCap k v).capbuf.length = m.capbuf.length := by
  simp [Memory.writeCap]

/-- A sample as CAPBUF holds it is an SW-bit value (spec/10_state.md R110). -/
theorem sampleValue_inRange (p : Params) (v : Int) (h : 2 ≤ p.sw) : p.SampleInRange (sampleValue p v) := by
  have half : (2 ^ p.sw : Nat) = 2 * 2 ^ (p.sw - 1) := by
    rw [← pow_succ']; congr 1; omega
  have pos : 0 < 2 ^ (p.sw - 1) := Nat.pow_pos (by omega)
  have lo := Int.le_bmod (x := v) (m := 2 ^ p.sw) (by omega)
  have hi := Int.bmod_lt (x := v) (m := 2 ^ p.sw) (by omega)
  have cast : ((2 ^ (p.sw - 1) : Nat) : Int) = 2 ^ (p.sw - 1) := by push_cast; rfl
  unfold sampleValue
  rw [half] at lo hi ⊢
  refine ⟨?_, ?_⟩ <;> rw [← cast] <;> omega

/-- A value the conversion source can deliver is stored as it is (spec/40_sampler.md R421, R422). -/
theorem sampleValue_of_inRange (p : Params) (v : Int) (h : 2 ≤ p.sw) (hv : p.SampleInRange v) :
    sampleValue p v = v := by
  have half : (2 ^ p.sw : Nat) = 2 * 2 ^ (p.sw - 1) := by
    rw [← pow_succ']; congr 1; omega
  have cast : ((2 ^ (p.sw - 1) : Nat) : Int) = 2 ^ (p.sw - 1) := by push_cast; rfl
  obtain ⟨lo, hi⟩ := hv
  rw [← cast] at lo hi
  exact Int.bmod_eq_of_le (by rw [half]; omega) (by rw [half]; omega)

/-- A sample written keeps the form of the index spaces. -/
theorem Memory.writeCap_wf {m : Memory} {p : Params} (h : m.wf p) (k : Nat) {v : Int} (hv : p.SampleInRange v) :
    (m.writeCap k v).wf p := by
  refine ⟨by simpa using h.1, h.2.1, fun x hx => ?_⟩
  rcases List.mem_or_eq_of_mem_set hx with old | rfl
  · exact h.2.2 x old
  · exact hv

/-- A spectrum of N/2 bins written keeps the form of the index spaces. -/
theorem Memory.writeSpec_wf {m : Memory} {p : Params} (h : m.wf p) {bins : List Word32}
    (hb : bins.length = p.binCount) : (m.writeSpec bins).wf p :=
  ⟨h.1, hb, h.2.2⟩

/-- The index spaces have their form after reset. -/
theorem Memory.reset_wf (p : Params) : (Memory.reset p).wf p := by
  refine ⟨by simp [Memory.reset], by simp [Memory.reset], fun v hv => ?_⟩
  rw [List.eq_of_mem_replicate hv]
  exact ⟨by simp, by positivity⟩

/-- The index spaces of the reset state have their form. -/
theorem State.reset_mem_wf : State.reset.mem.wf State.reset.params := Memory.reset_wf _

/-- With the index spaces in form, the samples a command reads are the list CAPBUF. -/
theorem State.captured_eq {s : State} (h : s.mem.wf s.params) : s.captured = s.mem.capbuf := by
  unfold State.captured
  rw [← h.1]
  apply List.ext_getElem
  · simp
  · intro i _ hi
    simp [Memory.readCap, hi]

end Sys2Proof.Machine
end

