-- ==== Sys2Proof/Laws/State.lean ====
section
/-! SUPPORT. What each small write leaves in each field of the state: one lemma per field per update. -/

namespace Sys2Proof.Machine

@[simp] theorem State.setResult_params (s : State) (v : Word32) : (s.setResult v).params = s.params := rfl
@[simp] theorem State.setResult_cmd (s : State) (v : Word32) : (s.setResult v).cmd = s.cmd := rfl
@[simp] theorem State.setResult_arg (s : State) (v : Word32) : (s.setResult v).arg = s.arg := rfl
@[simp] theorem State.setResult_result (s : State) (v : Word32) : (s.setResult v).result = v := rfl
@[simp] theorem State.setResult_mode (s : State) (v : Word32) : (s.setResult v).mode = s.mode := rfl
@[simp] theorem State.setResult_fcode (s : State) (v : Word32) : (s.setResult v).fcode = s.fcode := rfl
@[simp] theorem State.setResult_fcmd (s : State) (v : Word32) : (s.setResult v).fcmd = s.fcmd := rfl
@[simp] theorem State.setResult_mem (s : State) (v : Word32) : (s.setResult v).mem = s.mem := rfl
@[simp] theorem State.setResult_busy (s : State) (v : Word32) : (s.setResult v).busy = s.busy := rfl
@[simp] theorem State.setResult_idx (s : State) (v : Word32) : (s.setResult v).idx = s.idx := rfl
@[simp] theorem State.setResult_ch (s : State) (v : Word32) : (s.setResult v).ch = s.ch := rfl
@[simp] theorem State.setResult_level (s : State) (v : Word32) : (s.setResult v).level = s.level := rfl
@[simp] theorem State.setResult_lpf (s : State) (v : Word32) : (s.setResult v).lpf = s.lpf := rfl
@[simp] theorem State.setResult_alphaM (s : State) (v : Word32) : (s.setResult v).alphaM = s.alphaM := rfl
@[simp] theorem State.setResult_meter (s : State) (v : Word32) : (s.setResult v).meter = s.meter := rfl
@[simp] theorem State.setResult_active (s : State) (v : Word32) : (s.setResult v).active = s.active := rfl
@[simp] theorem State.setResult_vph (s : State) (v : Word32) : (s.setResult v).vph = s.vph := rfl
@[simp] theorem State.setResult_vcnt (s : State) (v : Word32) : (s.setResult v).vcnt = s.vcnt := rfl
@[simp] theorem State.setResult_buttons (s : State) (v : Word32) : (s.setResult v).buttons = s.buttons := rfl
@[simp] theorem State.setResult_dout (s : State) (v : Word32) : (s.setResult v).dout = s.dout := rfl
@[simp] theorem State.setResult_endedRuns (s : State) (v : Word32) : (s.setResult v).endedRuns = s.endedRuns := rfl
@[simp] theorem State.setResult_pending (s : State) (v : Word32) : (s.setResult v).pending = s.pending := rfl

@[simp] theorem State.emit_params (s : State) (ops : List DisplayOp) : (s.emit ops).params = s.params := rfl
@[simp] theorem State.emit_cmd (s : State) (ops : List DisplayOp) : (s.emit ops).cmd = s.cmd := rfl
@[simp] theorem State.emit_arg (s : State) (ops : List DisplayOp) : (s.emit ops).arg = s.arg := rfl
@[simp] theorem State.emit_result (s : State) (ops : List DisplayOp) : (s.emit ops).result = s.result := rfl
@[simp] theorem State.emit_mode (s : State) (ops : List DisplayOp) : (s.emit ops).mode = s.mode := rfl
@[simp] theorem State.emit_fcode (s : State) (ops : List DisplayOp) : (s.emit ops).fcode = s.fcode := rfl
@[simp] theorem State.emit_fcmd (s : State) (ops : List DisplayOp) : (s.emit ops).fcmd = s.fcmd := rfl
@[simp] theorem State.emit_mem (s : State) (ops : List DisplayOp) : (s.emit ops).mem = s.mem := rfl
@[simp] theorem State.emit_busy (s : State) (ops : List DisplayOp) : (s.emit ops).busy = s.busy := rfl
@[simp] theorem State.emit_idx (s : State) (ops : List DisplayOp) : (s.emit ops).idx = s.idx := rfl
@[simp] theorem State.emit_ch (s : State) (ops : List DisplayOp) : (s.emit ops).ch = s.ch := rfl
@[simp] theorem State.emit_level (s : State) (ops : List DisplayOp) : (s.emit ops).level = s.level := rfl
@[simp] theorem State.emit_lpf (s : State) (ops : List DisplayOp) : (s.emit ops).lpf = s.lpf := rfl
@[simp] theorem State.emit_alphaM (s : State) (ops : List DisplayOp) : (s.emit ops).alphaM = s.alphaM := rfl
@[simp] theorem State.emit_meter (s : State) (ops : List DisplayOp) : (s.emit ops).meter = s.meter := rfl
@[simp] theorem State.emit_active (s : State) (ops : List DisplayOp) : (s.emit ops).active = s.active := rfl
@[simp] theorem State.emit_vph (s : State) (ops : List DisplayOp) : (s.emit ops).vph = s.vph := rfl
@[simp] theorem State.emit_vcnt (s : State) (ops : List DisplayOp) : (s.emit ops).vcnt = s.vcnt := rfl
@[simp] theorem State.emit_buttons (s : State) (ops : List DisplayOp) : (s.emit ops).buttons = s.buttons := rfl
@[simp] theorem State.emit_dout (s : State) (ops : List DisplayOp) : (s.emit ops).dout = s.dout ++ ops := rfl
@[simp] theorem State.emit_endedRuns (s : State) (ops : List DisplayOp) : (s.emit ops).endedRuns = s.endedRuns := rfl
@[simp] theorem State.emit_pending (s : State) (ops : List DisplayOp) : (s.emit ops).pending = s.pending := rfl

@[simp] theorem State.setLevel_params (s : State) (c : Channel) (v : Word32) : (s.setLevel c v).params = s.params := rfl
@[simp] theorem State.setLevel_cmd (s : State) (c : Channel) (v : Word32) : (s.setLevel c v).cmd = s.cmd := rfl
@[simp] theorem State.setLevel_arg (s : State) (c : Channel) (v : Word32) : (s.setLevel c v).arg = s.arg := rfl
@[simp] theorem State.setLevel_result (s : State) (c : Channel) (v : Word32) : (s.setLevel c v).result = s.result := rfl
@[simp] theorem State.setLevel_mode (s : State) (c : Channel) (v : Word32) : (s.setLevel c v).mode = s.mode := rfl
@[simp] theorem State.setLevel_fcode (s : State) (c : Channel) (v : Word32) : (s.setLevel c v).fcode = s.fcode := rfl
@[simp] theorem State.setLevel_fcmd (s : State) (c : Channel) (v : Word32) : (s.setLevel c v).fcmd = s.fcmd := rfl
@[simp] theorem State.setLevel_mem (s : State) (c : Channel) (v : Word32) : (s.setLevel c v).mem = s.mem := rfl
@[simp] theorem State.setLevel_busy (s : State) (c : Channel) (v : Word32) : (s.setLevel c v).busy = s.busy := rfl
@[simp] theorem State.setLevel_idx (s : State) (c : Channel) (v : Word32) : (s.setLevel c v).idx = s.idx := rfl
@[simp] theorem State.setLevel_ch (s : State) (c : Channel) (v : Word32) : (s.setLevel c v).ch = s.ch := rfl
@[simp] theorem State.setLevel_level (s : State) (c : Channel) (v : Word32) : (s.setLevel c v).level = s.level.set c v := rfl
@[simp] theorem State.setLevel_lpf (s : State) (c : Channel) (v : Word32) : (s.setLevel c v).lpf = s.lpf := rfl
@[simp] theorem State.setLevel_alphaM (s : State) (c : Channel) (v : Word32) : (s.setLevel c v).alphaM = s.alphaM := rfl
@[simp] theorem State.setLevel_meter (s : State) (c : Channel) (v : Word32) : (s.setLevel c v).meter = s.meter := rfl
@[simp] theorem State.setLevel_active (s : State) (c : Channel) (v : Word32) : (s.setLevel c v).active = s.active := rfl
@[simp] theorem State.setLevel_vph (s : State) (c : Channel) (v : Word32) : (s.setLevel c v).vph = s.vph := rfl
@[simp] theorem State.setLevel_vcnt (s : State) (c : Channel) (v : Word32) : (s.setLevel c v).vcnt = s.vcnt := rfl
@[simp] theorem State.setLevel_buttons (s : State) (c : Channel) (v : Word32) : (s.setLevel c v).buttons = s.buttons := rfl
@[simp] theorem State.setLevel_dout (s : State) (c : Channel) (v : Word32) : (s.setLevel c v).dout = s.dout := rfl
@[simp] theorem State.setLevel_endedRuns (s : State) (c : Channel) (v : Word32) : (s.setLevel c v).endedRuns = s.endedRuns := rfl
@[simp] theorem State.setLevel_pending (s : State) (c : Channel) (v : Word32) : (s.setLevel c v).pending = s.pending := rfl

@[simp] theorem State.setLpf_params (s : State) (c : Channel) (v : Word32) : (s.setLpf c v).params = s.params := rfl
@[simp] theorem State.setLpf_cmd (s : State) (c : Channel) (v : Word32) : (s.setLpf c v).cmd = s.cmd := rfl
@[simp] theorem State.setLpf_arg (s : State) (c : Channel) (v : Word32) : (s.setLpf c v).arg = s.arg := rfl
@[simp] theorem State.setLpf_result (s : State) (c : Channel) (v : Word32) : (s.setLpf c v).result = s.result := rfl
@[simp] theorem State.setLpf_mode (s : State) (c : Channel) (v : Word32) : (s.setLpf c v).mode = s.mode := rfl
@[simp] theorem State.setLpf_fcode (s : State) (c : Channel) (v : Word32) : (s.setLpf c v).fcode = s.fcode := rfl
@[simp] theorem State.setLpf_fcmd (s : State) (c : Channel) (v : Word32) : (s.setLpf c v).fcmd = s.fcmd := rfl
@[simp] theorem State.setLpf_mem (s : State) (c : Channel) (v : Word32) : (s.setLpf c v).mem = s.mem := rfl
@[simp] theorem State.setLpf_busy (s : State) (c : Channel) (v : Word32) : (s.setLpf c v).busy = s.busy := rfl
@[simp] theorem State.setLpf_idx (s : State) (c : Channel) (v : Word32) : (s.setLpf c v).idx = s.idx := rfl
@[simp] theorem State.setLpf_ch (s : State) (c : Channel) (v : Word32) : (s.setLpf c v).ch = s.ch := rfl
@[simp] theorem State.setLpf_level (s : State) (c : Channel) (v : Word32) : (s.setLpf c v).level = s.level := rfl
@[simp] theorem State.setLpf_lpf (s : State) (c : Channel) (v : Word32) : (s.setLpf c v).lpf = s.lpf.set c v := rfl
@[simp] theorem State.setLpf_alphaM (s : State) (c : Channel) (v : Word32) : (s.setLpf c v).alphaM = s.alphaM := rfl
@[simp] theorem State.setLpf_meter (s : State) (c : Channel) (v : Word32) : (s.setLpf c v).meter = s.meter := rfl
@[simp] theorem State.setLpf_active (s : State) (c : Channel) (v : Word32) : (s.setLpf c v).active = s.active := rfl
@[simp] theorem State.setLpf_vph (s : State) (c : Channel) (v : Word32) : (s.setLpf c v).vph = s.vph := rfl
@[simp] theorem State.setLpf_vcnt (s : State) (c : Channel) (v : Word32) : (s.setLpf c v).vcnt = s.vcnt := rfl
@[simp] theorem State.setLpf_buttons (s : State) (c : Channel) (v : Word32) : (s.setLpf c v).buttons = s.buttons := rfl
@[simp] theorem State.setLpf_dout (s : State) (c : Channel) (v : Word32) : (s.setLpf c v).dout = s.dout := rfl
@[simp] theorem State.setLpf_endedRuns (s : State) (c : Channel) (v : Word32) : (s.setLpf c v).endedRuns = s.endedRuns := rfl
@[simp] theorem State.setLpf_pending (s : State) (c : Channel) (v : Word32) : (s.setLpf c v).pending = s.pending := rfl

@[simp] theorem State.setSpec_params (s : State) (bins : List Word32) : (s.setSpec bins).params = s.params := rfl
@[simp] theorem State.setSpec_cmd (s : State) (bins : List Word32) : (s.setSpec bins).cmd = s.cmd := rfl
@[simp] theorem State.setSpec_arg (s : State) (bins : List Word32) : (s.setSpec bins).arg = s.arg := rfl
@[simp] theorem State.setSpec_result (s : State) (bins : List Word32) : (s.setSpec bins).result = s.result := rfl
@[simp] theorem State.setSpec_mode (s : State) (bins : List Word32) : (s.setSpec bins).mode = s.mode := rfl
@[simp] theorem State.setSpec_fcode (s : State) (bins : List Word32) : (s.setSpec bins).fcode = s.fcode := rfl
@[simp] theorem State.setSpec_fcmd (s : State) (bins : List Word32) : (s.setSpec bins).fcmd = s.fcmd := rfl
@[simp] theorem State.setSpec_mem (s : State) (bins : List Word32) : (s.setSpec bins).mem = s.mem.writeSpec bins := rfl
@[simp] theorem State.setSpec_busy (s : State) (bins : List Word32) : (s.setSpec bins).busy = s.busy := rfl
@[simp] theorem State.setSpec_idx (s : State) (bins : List Word32) : (s.setSpec bins).idx = s.idx := rfl
@[simp] theorem State.setSpec_ch (s : State) (bins : List Word32) : (s.setSpec bins).ch = s.ch := rfl
@[simp] theorem State.setSpec_level (s : State) (bins : List Word32) : (s.setSpec bins).level = s.level := rfl
@[simp] theorem State.setSpec_lpf (s : State) (bins : List Word32) : (s.setSpec bins).lpf = s.lpf := rfl
@[simp] theorem State.setSpec_alphaM (s : State) (bins : List Word32) : (s.setSpec bins).alphaM = s.alphaM := rfl
@[simp] theorem State.setSpec_meter (s : State) (bins : List Word32) : (s.setSpec bins).meter = s.meter := rfl
@[simp] theorem State.setSpec_active (s : State) (bins : List Word32) : (s.setSpec bins).active = s.active := rfl
@[simp] theorem State.setSpec_vph (s : State) (bins : List Word32) : (s.setSpec bins).vph = s.vph := rfl
@[simp] theorem State.setSpec_vcnt (s : State) (bins : List Word32) : (s.setSpec bins).vcnt = s.vcnt := rfl
@[simp] theorem State.setSpec_buttons (s : State) (bins : List Word32) : (s.setSpec bins).buttons = s.buttons := rfl
@[simp] theorem State.setSpec_dout (s : State) (bins : List Word32) : (s.setSpec bins).dout = s.dout := rfl
@[simp] theorem State.setSpec_endedRuns (s : State) (bins : List Word32) : (s.setSpec bins).endedRuns = s.endedRuns := rfl
@[simp] theorem State.setSpec_pending (s : State) (bins : List Word32) : (s.setSpec bins).pending = s.pending := rfl

@[simp] theorem State.armCapture_params (s : State) : (s.armCapture).params = s.params := rfl
@[simp] theorem State.armCapture_cmd (s : State) : (s.armCapture).cmd = s.cmd := rfl
@[simp] theorem State.armCapture_arg (s : State) : (s.armCapture).arg = s.arg := rfl
@[simp] theorem State.armCapture_result (s : State) : (s.armCapture).result = s.result := rfl
@[simp] theorem State.armCapture_mode (s : State) : (s.armCapture).mode = s.mode := rfl
@[simp] theorem State.armCapture_fcode (s : State) : (s.armCapture).fcode = s.fcode := rfl
@[simp] theorem State.armCapture_fcmd (s : State) : (s.armCapture).fcmd = s.fcmd := rfl
@[simp] theorem State.armCapture_mem (s : State) : (s.armCapture).mem = s.mem := rfl
@[simp] theorem State.armCapture_busy (s : State) : (s.armCapture).busy = true := rfl
@[simp] theorem State.armCapture_idx (s : State) : (s.armCapture).idx = 0 := rfl
@[simp] theorem State.armCapture_ch (s : State) : (s.armCapture).ch = s.ch := rfl
@[simp] theorem State.armCapture_level (s : State) : (s.armCapture).level = s.level := rfl
@[simp] theorem State.armCapture_lpf (s : State) : (s.armCapture).lpf = s.lpf := rfl
@[simp] theorem State.armCapture_alphaM (s : State) : (s.armCapture).alphaM = s.alphaM := rfl
@[simp] theorem State.armCapture_meter (s : State) : (s.armCapture).meter = s.meter := rfl
@[simp] theorem State.armCapture_active (s : State) : (s.armCapture).active = s.active := rfl
@[simp] theorem State.armCapture_vph (s : State) : (s.armCapture).vph = s.vph := rfl
@[simp] theorem State.armCapture_vcnt (s : State) : (s.armCapture).vcnt = s.vcnt := rfl
@[simp] theorem State.armCapture_buttons (s : State) : (s.armCapture).buttons = s.buttons := rfl
@[simp] theorem State.armCapture_dout (s : State) : (s.armCapture).dout = s.dout := rfl
@[simp] theorem State.armCapture_endedRuns (s : State) : (s.armCapture).endedRuns = s.endedRuns := rfl
@[simp] theorem State.armCapture_pending (s : State) : (s.armCapture).pending = s.pending := rfl

@[simp] theorem State.toggleChannel_params (s : State) : (s.toggleChannel).params = s.params := rfl
@[simp] theorem State.toggleChannel_cmd (s : State) : (s.toggleChannel).cmd = s.cmd := rfl
@[simp] theorem State.toggleChannel_arg (s : State) : (s.toggleChannel).arg = s.arg := rfl
@[simp] theorem State.toggleChannel_result (s : State) : (s.toggleChannel).result = s.result := rfl
@[simp] theorem State.toggleChannel_mode (s : State) : (s.toggleChannel).mode = s.mode := rfl
@[simp] theorem State.toggleChannel_fcode (s : State) : (s.toggleChannel).fcode = s.fcode := rfl
@[simp] theorem State.toggleChannel_fcmd (s : State) : (s.toggleChannel).fcmd = s.fcmd := rfl
@[simp] theorem State.toggleChannel_mem (s : State) : (s.toggleChannel).mem = s.mem := rfl
@[simp] theorem State.toggleChannel_busy (s : State) : (s.toggleChannel).busy = s.busy := rfl
@[simp] theorem State.toggleChannel_idx (s : State) : (s.toggleChannel).idx = s.idx := rfl
@[simp] theorem State.toggleChannel_ch (s : State) : (s.toggleChannel).ch = otherChannel s.ch := rfl
@[simp] theorem State.toggleChannel_level (s : State) : (s.toggleChannel).level = s.level := rfl
@[simp] theorem State.toggleChannel_lpf (s : State) : (s.toggleChannel).lpf = s.lpf := rfl
@[simp] theorem State.toggleChannel_alphaM (s : State) : (s.toggleChannel).alphaM = s.alphaM := rfl
@[simp] theorem State.toggleChannel_meter (s : State) : (s.toggleChannel).meter = s.meter := rfl
@[simp] theorem State.toggleChannel_active (s : State) : (s.toggleChannel).active = s.active := rfl
@[simp] theorem State.toggleChannel_vph (s : State) : (s.toggleChannel).vph = s.vph := rfl
@[simp] theorem State.toggleChannel_vcnt (s : State) : (s.toggleChannel).vcnt = s.vcnt := rfl
@[simp] theorem State.toggleChannel_buttons (s : State) : (s.toggleChannel).buttons = s.buttons := rfl
@[simp] theorem State.toggleChannel_dout (s : State) : (s.toggleChannel).dout = s.dout := rfl
@[simp] theorem State.toggleChannel_endedRuns (s : State) : (s.toggleChannel).endedRuns = s.endedRuns := rfl
@[simp] theorem State.toggleChannel_pending (s : State) : (s.toggleChannel).pending = s.pending := rfl

@[simp] theorem State.setPhase_params (s : State) (f : Phase) (n : BitVec 8) : (s.setPhase f n).params = s.params := rfl
@[simp] theorem State.setPhase_cmd (s : State) (f : Phase) (n : BitVec 8) : (s.setPhase f n).cmd = s.cmd := rfl
@[simp] theorem State.setPhase_arg (s : State) (f : Phase) (n : BitVec 8) : (s.setPhase f n).arg = s.arg := rfl
@[simp] theorem State.setPhase_result (s : State) (f : Phase) (n : BitVec 8) : (s.setPhase f n).result = s.result := rfl
@[simp] theorem State.setPhase_mode (s : State) (f : Phase) (n : BitVec 8) : (s.setPhase f n).mode = s.mode := rfl
@[simp] theorem State.setPhase_fcode (s : State) (f : Phase) (n : BitVec 8) : (s.setPhase f n).fcode = s.fcode := rfl
@[simp] theorem State.setPhase_fcmd (s : State) (f : Phase) (n : BitVec 8) : (s.setPhase f n).fcmd = s.fcmd := rfl
@[simp] theorem State.setPhase_mem (s : State) (f : Phase) (n : BitVec 8) : (s.setPhase f n).mem = s.mem := rfl
@[simp] theorem State.setPhase_busy (s : State) (f : Phase) (n : BitVec 8) : (s.setPhase f n).busy = s.busy := rfl
@[simp] theorem State.setPhase_idx (s : State) (f : Phase) (n : BitVec 8) : (s.setPhase f n).idx = s.idx := rfl
@[simp] theorem State.setPhase_ch (s : State) (f : Phase) (n : BitVec 8) : (s.setPhase f n).ch = s.ch := rfl
@[simp] theorem State.setPhase_level (s : State) (f : Phase) (n : BitVec 8) : (s.setPhase f n).level = s.level := rfl
@[simp] theorem State.setPhase_lpf (s : State) (f : Phase) (n : BitVec 8) : (s.setPhase f n).lpf = s.lpf := rfl
@[simp] theorem State.setPhase_alphaM (s : State) (f : Phase) (n : BitVec 8) : (s.setPhase f n).alphaM = s.alphaM := rfl
@[simp] theorem State.setPhase_meter (s : State) (f : Phase) (n : BitVec 8) : (s.setPhase f n).meter = s.meter := rfl
@[simp] theorem State.setPhase_active (s : State) (f : Phase) (n : BitVec 8) : (s.setPhase f n).active = s.active := rfl
@[simp] theorem State.setPhase_vph (s : State) (f : Phase) (n : BitVec 8) : (s.setPhase f n).vph = f := rfl
@[simp] theorem State.setPhase_vcnt (s : State) (f : Phase) (n : BitVec 8) : (s.setPhase f n).vcnt = n := rfl
@[simp] theorem State.setPhase_buttons (s : State) (f : Phase) (n : BitVec 8) : (s.setPhase f n).buttons = s.buttons := rfl
@[simp] theorem State.setPhase_dout (s : State) (f : Phase) (n : BitVec 8) : (s.setPhase f n).dout = s.dout := rfl
@[simp] theorem State.setPhase_endedRuns (s : State) (f : Phase) (n : BitVec 8) : (s.setPhase f n).endedRuns = s.endedRuns := rfl
@[simp] theorem State.setPhase_pending (s : State) (f : Phase) (n : BitVec 8) : (s.setPhase f n).pending = s.pending := rfl

@[simp] theorem State.selectMeter_params (s : State) (m : Meter) : (s.selectMeter m).params = s.params := rfl
@[simp] theorem State.selectMeter_cmd (s : State) (m : Meter) : (s.selectMeter m).cmd = s.cmd := rfl
@[simp] theorem State.selectMeter_arg (s : State) (m : Meter) : (s.selectMeter m).arg = s.arg := rfl
@[simp] theorem State.selectMeter_result (s : State) (m : Meter) : (s.selectMeter m).result = s.result := rfl
@[simp] theorem State.selectMeter_mode (s : State) (m : Meter) : (s.selectMeter m).mode = s.mode := rfl
@[simp] theorem State.selectMeter_fcode (s : State) (m : Meter) : (s.selectMeter m).fcode = s.fcode := rfl
@[simp] theorem State.selectMeter_fcmd (s : State) (m : Meter) : (s.selectMeter m).fcmd = s.fcmd := rfl
@[simp] theorem State.selectMeter_mem (s : State) (m : Meter) : (s.selectMeter m).mem = s.mem := rfl
@[simp] theorem State.selectMeter_busy (s : State) (m : Meter) : (s.selectMeter m).busy = s.busy := rfl
@[simp] theorem State.selectMeter_idx (s : State) (m : Meter) : (s.selectMeter m).idx = s.idx := rfl
@[simp] theorem State.selectMeter_ch (s : State) (m : Meter) : (s.selectMeter m).ch = s.ch := rfl
@[simp] theorem State.selectMeter_level (s : State) (m : Meter) : (s.selectMeter m).level = s.level := rfl
@[simp] theorem State.selectMeter_lpf (s : State) (m : Meter) : (s.selectMeter m).lpf = s.lpf := rfl
@[simp] theorem State.selectMeter_alphaM (s : State) (m : Meter) : (s.selectMeter m).alphaM = s.alphaM := rfl
@[simp] theorem State.selectMeter_meter (s : State) (m : Meter) : (s.selectMeter m).meter = m := rfl
@[simp] theorem State.selectMeter_active (s : State) (m : Meter) : (s.selectMeter m).active = true := rfl
@[simp] theorem State.selectMeter_vph (s : State) (m : Meter) : (s.selectMeter m).vph = s.vph := rfl
@[simp] theorem State.selectMeter_vcnt (s : State) (m : Meter) : (s.selectMeter m).vcnt = s.vcnt := rfl
@[simp] theorem State.selectMeter_buttons (s : State) (m : Meter) : (s.selectMeter m).buttons = s.buttons := rfl
@[simp] theorem State.selectMeter_dout (s : State) (m : Meter) : (s.selectMeter m).dout = s.dout := rfl
@[simp] theorem State.selectMeter_endedRuns (s : State) (m : Meter) : (s.selectMeter m).endedRuns = s.endedRuns := rfl
@[simp] theorem State.selectMeter_pending (s : State) (m : Meter) : (s.selectMeter m).pending = s.pending := rfl

@[simp] theorem State.setButtons_params (s : State) (bs : Buttons) : (s.setButtons bs).params = s.params := rfl
@[simp] theorem State.setButtons_cmd (s : State) (bs : Buttons) : (s.setButtons bs).cmd = s.cmd := rfl
@[simp] theorem State.setButtons_arg (s : State) (bs : Buttons) : (s.setButtons bs).arg = s.arg := rfl
@[simp] theorem State.setButtons_result (s : State) (bs : Buttons) : (s.setButtons bs).result = s.result := rfl
@[simp] theorem State.setButtons_mode (s : State) (bs : Buttons) : (s.setButtons bs).mode = s.mode := rfl
@[simp] theorem State.setButtons_fcode (s : State) (bs : Buttons) : (s.setButtons bs).fcode = s.fcode := rfl
@[simp] theorem State.setButtons_fcmd (s : State) (bs : Buttons) : (s.setButtons bs).fcmd = s.fcmd := rfl
@[simp] theorem State.setButtons_mem (s : State) (bs : Buttons) : (s.setButtons bs).mem = s.mem := rfl
@[simp] theorem State.setButtons_busy (s : State) (bs : Buttons) : (s.setButtons bs).busy = s.busy := rfl
@[simp] theorem State.setButtons_idx (s : State) (bs : Buttons) : (s.setButtons bs).idx = s.idx := rfl
@[simp] theorem State.setButtons_ch (s : State) (bs : Buttons) : (s.setButtons bs).ch = s.ch := rfl
@[simp] theorem State.setButtons_level (s : State) (bs : Buttons) : (s.setButtons bs).level = s.level := rfl
@[simp] theorem State.setButtons_lpf (s : State) (bs : Buttons) : (s.setButtons bs).lpf = s.lpf := rfl
@[simp] theorem State.setButtons_alphaM (s : State) (bs : Buttons) : (s.setButtons bs).alphaM = s.alphaM := rfl
@[simp] theorem State.setButtons_meter (s : State) (bs : Buttons) : (s.setButtons bs).meter = s.meter := rfl
@[simp] theorem State.setButtons_active (s : State) (bs : Buttons) : (s.setButtons bs).active = s.active := rfl
@[simp] theorem State.setButtons_vph (s : State) (bs : Buttons) : (s.setButtons bs).vph = s.vph := rfl
@[simp] theorem State.setButtons_vcnt (s : State) (bs : Buttons) : (s.setButtons bs).vcnt = s.vcnt := rfl
@[simp] theorem State.setButtons_buttons (s : State) (bs : Buttons) : (s.setButtons bs).buttons = bs := rfl
@[simp] theorem State.setButtons_dout (s : State) (bs : Buttons) : (s.setButtons bs).dout = s.dout := rfl
@[simp] theorem State.setButtons_endedRuns (s : State) (bs : Buttons) : (s.setButtons bs).endedRuns = s.endedRuns := rfl
@[simp] theorem State.setButtons_pending (s : State) (bs : Buttons) : (s.setButtons bs).pending = s.pending := rfl

@[simp] theorem State.raiseFault_params (s : State) (code : FaultCode) : (s.raiseFault code).params = s.params := rfl
@[simp] theorem State.raiseFault_cmd (s : State) (code : FaultCode) : (s.raiseFault code).cmd = s.cmd := rfl
@[simp] theorem State.raiseFault_arg (s : State) (code : FaultCode) : (s.raiseFault code).arg = s.arg := rfl
@[simp] theorem State.raiseFault_result (s : State) (code : FaultCode) : (s.raiseFault code).result = s.result := rfl
@[simp] theorem State.raiseFault_mode (s : State) (code : FaultCode) : (s.raiseFault code).mode = .faulted := rfl
@[simp] theorem State.raiseFault_fcode (s : State) (code : FaultCode) : (s.raiseFault code).fcode = code := rfl
@[simp] theorem State.raiseFault_fcmd (s : State) (code : FaultCode) : (s.raiseFault code).fcmd = s.cmd := rfl
@[simp] theorem State.raiseFault_mem (s : State) (code : FaultCode) : (s.raiseFault code).mem = s.mem := rfl
@[simp] theorem State.raiseFault_busy (s : State) (code : FaultCode) : (s.raiseFault code).busy = s.busy := rfl
@[simp] theorem State.raiseFault_idx (s : State) (code : FaultCode) : (s.raiseFault code).idx = s.idx := rfl
@[simp] theorem State.raiseFault_ch (s : State) (code : FaultCode) : (s.raiseFault code).ch = s.ch := rfl
@[simp] theorem State.raiseFault_level (s : State) (code : FaultCode) : (s.raiseFault code).level = s.level := rfl
@[simp] theorem State.raiseFault_lpf (s : State) (code : FaultCode) : (s.raiseFault code).lpf = s.lpf := rfl
@[simp] theorem State.raiseFault_alphaM (s : State) (code : FaultCode) : (s.raiseFault code).alphaM = s.alphaM := rfl
@[simp] theorem State.raiseFault_meter (s : State) (code : FaultCode) : (s.raiseFault code).meter = s.meter := rfl
@[simp] theorem State.raiseFault_active (s : State) (code : FaultCode) : (s.raiseFault code).active = s.active := rfl
@[simp] theorem State.raiseFault_vph (s : State) (code : FaultCode) : (s.raiseFault code).vph = s.vph := rfl
@[simp] theorem State.raiseFault_vcnt (s : State) (code : FaultCode) : (s.raiseFault code).vcnt = s.vcnt := rfl
@[simp] theorem State.raiseFault_buttons (s : State) (code : FaultCode) : (s.raiseFault code).buttons = s.buttons := rfl
@[simp] theorem State.raiseFault_dout (s : State) (code : FaultCode) : (s.raiseFault code).dout = s.dout := rfl
@[simp] theorem State.raiseFault_endedRuns (s : State) (code : FaultCode) : (s.raiseFault code).endedRuns = s.endedRuns := rfl
@[simp] theorem State.raiseFault_pending (s : State) (code : FaultCode) : (s.raiseFault code).pending = s.pending := rfl

@[simp] theorem State.raiseFatal_params (s : State) (code : FaultCode) (w : CmdWord) : (s.raiseFatal code w).params = s.params := rfl
@[simp] theorem State.raiseFatal_cmd (s : State) (code : FaultCode) (w : CmdWord) : (s.raiseFatal code w).cmd = s.cmd := rfl
@[simp] theorem State.raiseFatal_arg (s : State) (code : FaultCode) (w : CmdWord) : (s.raiseFatal code w).arg = s.arg := rfl
@[simp] theorem State.raiseFatal_result (s : State) (code : FaultCode) (w : CmdWord) : (s.raiseFatal code w).result = s.result := rfl
@[simp] theorem State.raiseFatal_mode (s : State) (code : FaultCode) (w : CmdWord) : (s.raiseFatal code w).mode = .halted := rfl
@[simp] theorem State.raiseFatal_fcode (s : State) (code : FaultCode) (w : CmdWord) : (s.raiseFatal code w).fcode = code := rfl
@[simp] theorem State.raiseFatal_fcmd (s : State) (code : FaultCode) (w : CmdWord) : (s.raiseFatal code w).fcmd = w := rfl
@[simp] theorem State.raiseFatal_mem (s : State) (code : FaultCode) (w : CmdWord) : (s.raiseFatal code w).mem = s.mem := rfl
@[simp] theorem State.raiseFatal_busy (s : State) (code : FaultCode) (w : CmdWord) : (s.raiseFatal code w).busy = s.busy := rfl
@[simp] theorem State.raiseFatal_idx (s : State) (code : FaultCode) (w : CmdWord) : (s.raiseFatal code w).idx = s.idx := rfl
@[simp] theorem State.raiseFatal_ch (s : State) (code : FaultCode) (w : CmdWord) : (s.raiseFatal code w).ch = s.ch := rfl
@[simp] theorem State.raiseFatal_level (s : State) (code : FaultCode) (w : CmdWord) : (s.raiseFatal code w).level = s.level := rfl
@[simp] theorem State.raiseFatal_lpf (s : State) (code : FaultCode) (w : CmdWord) : (s.raiseFatal code w).lpf = s.lpf := rfl
@[simp] theorem State.raiseFatal_alphaM (s : State) (code : FaultCode) (w : CmdWord) : (s.raiseFatal code w).alphaM = s.alphaM := rfl
@[simp] theorem State.raiseFatal_meter (s : State) (code : FaultCode) (w : CmdWord) : (s.raiseFatal code w).meter = s.meter := rfl
@[simp] theorem State.raiseFatal_active (s : State) (code : FaultCode) (w : CmdWord) : (s.raiseFatal code w).active = s.active := rfl
@[simp] theorem State.raiseFatal_vph (s : State) (code : FaultCode) (w : CmdWord) : (s.raiseFatal code w).vph = s.vph := rfl
@[simp] theorem State.raiseFatal_vcnt (s : State) (code : FaultCode) (w : CmdWord) : (s.raiseFatal code w).vcnt = s.vcnt := rfl
@[simp] theorem State.raiseFatal_buttons (s : State) (code : FaultCode) (w : CmdWord) : (s.raiseFatal code w).buttons = s.buttons := rfl
@[simp] theorem State.raiseFatal_dout (s : State) (code : FaultCode) (w : CmdWord) : (s.raiseFatal code w).dout = s.dout ++ diagnosticOps s.params := rfl
@[simp] theorem State.raiseFatal_endedRuns (s : State) (code : FaultCode) (w : CmdWord) : (s.raiseFatal code w).endedRuns = s.endedRuns := rfl
@[simp] theorem State.raiseFatal_pending (s : State) (code : FaultCode) (w : CmdWord) : (s.raiseFatal code w).pending = s.pending := rfl

@[simp] theorem State.latch_params (s : State) (w : CmdWord) (a : Word32) : (s.latch w a).params = s.params := rfl
@[simp] theorem State.latch_cmd (s : State) (w : CmdWord) (a : Word32) : (s.latch w a).cmd = w := rfl
@[simp] theorem State.latch_arg (s : State) (w : CmdWord) (a : Word32) : (s.latch w a).arg = a := rfl
@[simp] theorem State.latch_result (s : State) (w : CmdWord) (a : Word32) : (s.latch w a).result = s.result := rfl
@[simp] theorem State.latch_mode (s : State) (w : CmdWord) (a : Word32) : (s.latch w a).mode = s.mode := rfl
@[simp] theorem State.latch_fcode (s : State) (w : CmdWord) (a : Word32) : (s.latch w a).fcode = s.fcode := rfl
@[simp] theorem State.latch_fcmd (s : State) (w : CmdWord) (a : Word32) : (s.latch w a).fcmd = s.fcmd := rfl
@[simp] theorem State.latch_mem (s : State) (w : CmdWord) (a : Word32) : (s.latch w a).mem = s.mem := rfl
@[simp] theorem State.latch_busy (s : State) (w : CmdWord) (a : Word32) : (s.latch w a).busy = s.busy := rfl
@[simp] theorem State.latch_idx (s : State) (w : CmdWord) (a : Word32) : (s.latch w a).idx = s.idx := rfl
@[simp] theorem State.latch_ch (s : State) (w : CmdWord) (a : Word32) : (s.latch w a).ch = s.ch := rfl
@[simp] theorem State.latch_level (s : State) (w : CmdWord) (a : Word32) : (s.latch w a).level = s.level := rfl
@[simp] theorem State.latch_lpf (s : State) (w : CmdWord) (a : Word32) : (s.latch w a).lpf = s.lpf := rfl
@[simp] theorem State.latch_alphaM (s : State) (w : CmdWord) (a : Word32) : (s.latch w a).alphaM = s.alphaM := rfl
@[simp] theorem State.latch_meter (s : State) (w : CmdWord) (a : Word32) : (s.latch w a).meter = s.meter := rfl
@[simp] theorem State.latch_active (s : State) (w : CmdWord) (a : Word32) : (s.latch w a).active = s.active := rfl
@[simp] theorem State.latch_vph (s : State) (w : CmdWord) (a : Word32) : (s.latch w a).vph = s.vph := rfl
@[simp] theorem State.latch_vcnt (s : State) (w : CmdWord) (a : Word32) : (s.latch w a).vcnt = s.vcnt := rfl
@[simp] theorem State.latch_buttons (s : State) (w : CmdWord) (a : Word32) : (s.latch w a).buttons = s.buttons := rfl
@[simp] theorem State.latch_dout (s : State) (w : CmdWord) (a : Word32) : (s.latch w a).dout = s.dout := rfl
@[simp] theorem State.latch_endedRuns (s : State) (w : CmdWord) (a : Word32) : (s.latch w a).endedRuns = s.endedRuns := rfl
@[simp] theorem State.latch_pending (s : State) (w : CmdWord) (a : Word32) : (s.latch w a).pending = s.pending := rfl

@[simp] theorem State.release_params (s : State) : (s.release).params = s.params := rfl
@[simp] theorem State.release_cmd (s : State) : (s.release).cmd = 0 := rfl
@[simp] theorem State.release_arg (s : State) : (s.release).arg = 0 := rfl
@[simp] theorem State.release_result (s : State) : (s.release).result = s.result := rfl
@[simp] theorem State.release_mode (s : State) : (s.release).mode = s.mode := rfl
@[simp] theorem State.release_fcode (s : State) : (s.release).fcode = s.fcode := rfl
@[simp] theorem State.release_fcmd (s : State) : (s.release).fcmd = s.fcmd := rfl
@[simp] theorem State.release_mem (s : State) : (s.release).mem = s.mem := rfl
@[simp] theorem State.release_busy (s : State) : (s.release).busy = s.busy := rfl
@[simp] theorem State.release_idx (s : State) : (s.release).idx = s.idx := rfl
@[simp] theorem State.release_ch (s : State) : (s.release).ch = s.ch := rfl
@[simp] theorem State.release_level (s : State) : (s.release).level = s.level := rfl
@[simp] theorem State.release_lpf (s : State) : (s.release).lpf = s.lpf := rfl
@[simp] theorem State.release_alphaM (s : State) : (s.release).alphaM = s.alphaM := rfl
@[simp] theorem State.release_meter (s : State) : (s.release).meter = s.meter := rfl
@[simp] theorem State.release_active (s : State) : (s.release).active = s.active := rfl
@[simp] theorem State.release_vph (s : State) : (s.release).vph = s.vph := rfl
@[simp] theorem State.release_vcnt (s : State) : (s.release).vcnt = s.vcnt := rfl
@[simp] theorem State.release_buttons (s : State) : (s.release).buttons = s.buttons := rfl
@[simp] theorem State.release_dout (s : State) : (s.release).dout = s.dout := rfl
@[simp] theorem State.release_endedRuns (s : State) : (s.release).endedRuns = s.endedRuns := rfl
@[simp] theorem State.release_pending (s : State) : (s.release).pending = s.pending := rfl

@[simp] theorem State.performReset_params (s : State) : (s.performReset).params = s.params := rfl
@[simp] theorem State.performReset_cmd (s : State) : (s.performReset).cmd = s.cmd := rfl
@[simp] theorem State.performReset_arg (s : State) : (s.performReset).arg = s.arg := rfl
@[simp] theorem State.performReset_result (s : State) : (s.performReset).result = (State.resetWith s.params).result := rfl
@[simp] theorem State.performReset_mode (s : State) : (s.performReset).mode = (State.resetWith s.params).mode := rfl
@[simp] theorem State.performReset_fcode (s : State) : (s.performReset).fcode = (State.resetWith s.params).fcode := rfl
@[simp] theorem State.performReset_fcmd (s : State) : (s.performReset).fcmd = (State.resetWith s.params).fcmd := rfl
@[simp] theorem State.performReset_mem (s : State) : (s.performReset).mem = (State.resetWith s.params).mem := rfl
@[simp] theorem State.performReset_busy (s : State) : (s.performReset).busy = (State.resetWith s.params).busy := rfl
@[simp] theorem State.performReset_idx (s : State) : (s.performReset).idx = (State.resetWith s.params).idx := rfl
@[simp] theorem State.performReset_ch (s : State) : (s.performReset).ch = (State.resetWith s.params).ch := rfl
@[simp] theorem State.performReset_level (s : State) : (s.performReset).level = (State.resetWith s.params).level := rfl
@[simp] theorem State.performReset_lpf (s : State) : (s.performReset).lpf = (State.resetWith s.params).lpf := rfl
@[simp] theorem State.performReset_alphaM (s : State) : (s.performReset).alphaM = (State.resetWith s.params).alphaM := rfl
@[simp] theorem State.performReset_meter (s : State) : (s.performReset).meter = (State.resetWith s.params).meter := rfl
@[simp] theorem State.performReset_active (s : State) : (s.performReset).active = (State.resetWith s.params).active := rfl
@[simp] theorem State.performReset_vph (s : State) : (s.performReset).vph = (State.resetWith s.params).vph := rfl
@[simp] theorem State.performReset_vcnt (s : State) : (s.performReset).vcnt = (State.resetWith s.params).vcnt := rfl
@[simp] theorem State.performReset_buttons (s : State) : (s.performReset).buttons = (State.resetWith s.params).buttons := rfl
@[simp] theorem State.performReset_dout (s : State) : (s.performReset).dout = s.dout := rfl
@[simp] theorem State.performReset_endedRuns (s : State) : (s.performReset).endedRuns = s.endedRuns ++ s.faultOutcome.toList := rfl
@[simp] theorem State.performReset_pending (s : State) : (s.performReset).pending = s.pending := rfl

end Sys2Proof.Machine
end

