-- ==== Sys2Proof/Laws/Ops.lean ====
section
/-! SUPPORT. Everything a shared operation can do, said once: the gates of spec/60_exceptions.md R806, the display
helpers, the transaction and the step. -/

namespace Sys2Proof.Machine

@[simp] theorem Stereo.get_set_same {α : Type} (p : Stereo α) (c : Channel) (v : α) : (p.set c v).get c = v := by
  cases c <;> rfl

theorem Stereo.get_set_other {α : Type} (p : Stereo α) {c d : Channel} (v : α) (h : d ≠ c) :
    (p.set c v).get d = p.get d := by
  cases c <;> cases d <;> first | rfl | exact absurd rfl h

theorem whenRunning_run {s : State} (h : s.mode = .run) (act : State → State) : whenRunning s act = act s := if_pos h

theorem whenRunning_stopped {s : State} (h : s.mode ≠ .run) (act : State → State) : whenRunning s act = s := if_neg h

theorem unlessBusy_busy {s : State} (h : s.busy = true) (act : State → State) :
    unlessBusy s act = s.raiseFault .busyViolation := if_pos h

theorem unlessBusy_idle {s : State} (h : s.busy = false) (act : State → State) : unlessBusy s act = act s := by
  simp [unlessBusy, h]

theorem whenActive_active {s : State} (h : s.active = true) (act : State → State) : whenActive s act = act s := if_pos h

theorem whenActive_inactive {s : State} (h : s.active = false) (act : State → State) :
    whenActive s act = s.raiseFault .notActive := by
  simp [whenActive, h]

/-- Every command answers a next state. -/
theorem exec_isNext (i : Instr) (s : State) : ∃ t, exec i s = .next t := by
  cases i <;> exact ⟨_, rfl⟩

/-- A transaction is the command in the latched state, released, or the illegal word. -/
theorem runTransaction_ok {w : CmdWord} {i : Instr} (h : decode w = .ok i) (a : Word32) (s : State) :
    runTransaction w a s = mapNext State.release (exec i (s.latch w a)) := by
  simp [runTransaction, h]

theorem runTransaction_error {w : CmdWord} {e : DecodeError} (h : decode w = .error e) (a : Word32) (s : State) :
    runTransaction w a s = .next (illegalCommand (s.latch w a)).release := by
  simp [runTransaction, h]

@[simp] theorem mapNext_next (f : State → State) (s : State) : mapNext f (.next s) = .next (f s) := rfl

theorem step_idle {s : State} (h : s.pending = []) : step s = .next s := by
  simp [step, advance, h]

theorem step_move {s : State} {move : Input} {rest : List Input} (h : s.pending = move :: rest) :
    step s = takeMove move { s with pending := rest } := by
  simp [step, advance, h]

/-- A run takes its first step first. -/
theorem run_step {s t : State} (h : step s = .next t) (n : Nat) :
    Sys2Proof.core.run (n + 1) s = Sys2Proof.core.run n t := by
  have unfolded : ∀ (M : Host.Core) (x y : M.State), M.step x = .next y → M.run (n + 1) x = M.run n y := by
    intro M x y hxy
    rw [Host.Core.run, hxy]
  exact unfolded Sys2Proof.core s t h

/-- A block in RUN has no fault outcome, so its reset ends no run. -/
@[simp] theorem State.faultOutcome_running {s : State} (h : s.mode = .run) : s.faultOutcome = none := if_pos h

/-- The fault outcome of a block that is FAULTED or HALTED. -/
@[simp] theorem State.faultOutcome_stopped {s : State} (h : s.mode ≠ .run) :
    s.faultOutcome = some ⟨s.mode, s.fcode, s.fcmd⟩ := if_neg h

/-- Where a run ends, MODE is not RUN and the next move is a reset. -/
theorem State.endsRun_cases {s : State} (h : s.endsRun = true) :
    s.mode ≠ .run ∧ (s.pending.head? = some .resetAsserted ∨
      s.mode = .faulted ∧ ∃ a, s.pending.head? = some (.command 0xF000 a)) := by
  unfold State.endsRun at h
  split at h
  · exact ⟨by simpa using h, .inl ‹_›⟩
  · obtain ⟨hm, rfl⟩ : s.mode = .faulted ∧ _ := by simpa using h
    exact ⟨by simp [hm], .inr ⟨hm, _, ‹_›⟩⟩
  all_goals cases h

/-- A run goes on with its first step where that step does not end it. -/
theorem runWithin_step {s t : State} (he : s.endsRun = false) (h : step s = .next t) (n : Nat) :
    runWithin (n + 1) s = runWithin n t := by
  simp [runWithin, he, h]

/-- A run is cut where it ends. -/
theorem runWithin_end {s : State} (he : s.endsRun = true) (n : Nat) : runWithin n s = .next s := by
  cases n <;> simp [runWithin, he]

/-- One command more: the first, then the others. -/
theorem execTimes_step {i : Instr} {s t : State} (h : exec i s = .next t) (n : Nat) :
    execTimes (n + 1) i s = execTimes n i t := by
  simp [execTimes, h]

/-- A sample event: taken with room for it, taken without, or not enabled. -/
theorem sampleEvent_enabled {s : State} (hm : s.mode = .run) (hb : s.busy = true)
    (hi : s.idx.toNat < s.params.captureLen) (v : Int) : sampleEvent v s = .next (storeSample v s) := by
  simp [sampleEvent, hm, hb, hi]

theorem sampleEvent_disabled {s : State} (h : ¬(s.mode = .run ∧ s.busy = true)) (v : Int) :
    sampleEvent v s = .next s := if_neg h

@[simp] theorem fieldOps_length (p : Params) (codes : List CharCode) : (fieldOps p codes).length = codes.length + 1 := by
  simp [fieldOps]

@[simp] theorem loadSetFrom_length (slot : Nat) (gs : List GlyphBits) : (loadSetFrom slot gs).length = gs.length := by
  induction gs generalizing slot with
  | nil => rfl
  | cons g gs ih => simp [loadSetFrom, ih]

/-- A set loaded from a slot on writes only slots below its end. -/
theorem mem_loadSetFrom {slot : Nat} {gs : List GlyphBits} {op : DisplayOp} (h : op ∈ loadSetFrom slot gs) :
    ∃ k g, op = .glyph k g ∧ slot ≤ k ∧ k < slot + gs.length := by
  induction gs generalizing slot with
  | nil => cases h
  | cons g gs ih =>
    rcases List.mem_cons.mp h with rfl | h
    · exact ⟨slot, g, rfl, le_rfl, by simp⟩
    · obtain ⟨k, g', rfl, lo, hi⟩ := ih h
      exact ⟨k, g', rfl, by omega, by simp; omega⟩

/-- The scan never counts above where it starts. -/
theorem dbScan_le (p : Params) (value stride cnt i : Nat) : dbScan p value stride cnt i ≤ cnt := by
  induction cnt generalizing i with
  | zero => simp [dbScan]
  | succ cnt ih =>
    unfold dbScan
    split
    · exact le_rfl
    · exact (ih _).trans (by omega)

@[simp] theorem Debouncer.step_toRise (d : Debouncer) (lg : Bool) (now : Word32) : (d.step lg now).toRise = d.toRise := by
  unfold Debouncer.step Debouncer.startTimer
  repeat' split
  all_goals (dsimp only; repeat' split)
  all_goals rfl

@[simp] theorem Debouncer.step_toFall (d : Debouncer) (lg : Bool) (now : Word32) : (d.step lg now).toFall = d.toFall := by
  unfold Debouncer.step Debouncer.startTimer
  repeat' split
  all_goals (dsimp only; repeat' split)
  all_goals rfl

/-- FFT.RUN writes N/2 bins. -/
theorem spectrumBins_length (p : Params) (xs : List Int) : (spectrumBins p xs).length = p.binCount := by
  unfold spectrumBins smoothed zeroDc fftMagnitudes referenceMagnitudes
  cases p.smooth <;> cases p.fftMag <;> simp

/-- Bin 0 of what FFT.RUN writes is 0 (spec/41_spectral.md R450). -/
theorem spectrumBins_zero (p : Params) (xs : List Int) : (spectrumBins p xs).getD 0 0 = 0 := by
  unfold spectrumBins
  cases (smoothed p (zeroDc (fftMagnitudes p xs))).map saturate <;> rfl

end Sys2Proof.Machine
end

