-- ==== Sys2Proof/Laws/Debounce.lean ====
section
/-! SUPPORT. What one call of a debouncer keeps (spec/44_debounce.md R700, R701). -/

namespace Sys2Proof.Machine

/-- When the timer runs from, in a call at time `now`. -/
abbrev Debouncer.start (d : Debouncer) (now : Word32) : Word32 := if d.armed then d.ts else now

/-- The timeout of a change to `lg`. -/
abbrev Debouncer.timeout (d : Debouncer) (lg : Bool) : Nat := (if lg then d.toRise else d.toFall).toNat

/-- Everything debounce1 can do: no change, the change accepted, the timer runs (spec/44_debounce.md R701). -/
theorem Debouncer.step_cases (d : Debouncer) (lg : Bool) (now : Word32) :
    (lg = d.stable ∧ d.step lg now = { d with armed := false, ts := 0 }) ∨
      (lg ≠ d.stable ∧ d.timeout lg ≤ (now - d.start now).toNat ∧
        d.step lg now = { d with stable := lg, armed := false, ts := 0 }) ∨
      (lg ≠ d.stable ∧ ¬ d.timeout lg ≤ (now - d.start now).toNat ∧
        d.step lg now = { d with armed := true, ts := d.start now }) := by
  by_cases same : lg = d.stable
  · exact .inl ⟨same, if_pos same⟩
  · obtain ⟨stable, armed, ts, toRise, toFall, lastOut⟩ := d
    have unfolded : Debouncer.step ⟨stable, armed, ts, toRise, toFall, lastOut⟩ lg now =
        if (if lg then toRise else toFall).toNat ≤ (now - (if armed then ts else now)).toNat then
          ⟨lg, false, 0, toRise, toFall, lastOut⟩
        else ⟨stable, true, if armed then ts else now, toRise, toFall, lastOut⟩ := by
      cases armed <;> simp only [Debouncer.step, if_neg same] <;> rfl
    by_cases h : (if lg then toRise else toFall).toNat ≤ (now - (if armed then ts else now)).toNat
    · exact .inr (.inl ⟨same, h, by rw [unfolded, if_pos h]⟩)
    · exact .inr (.inr ⟨same, h, by rw [unfolded, if_neg h]⟩)

/-- An idle timer after a call has timestamp 0, if it had before. -/
theorem Debouncer.call_idle {d : Debouncer} (h : d.armed = false → d.ts = 0) (bypass lg : Bool) (now : Word32) :
    (d.call bypass lg now).1.armed = false → (d.call bypass lg now).1.ts = 0 := by
  cases bypass
  · show (d.step lg now).armed = false → (d.step lg now).ts = 0
    rcases d.step_cases lg now with ⟨_, e⟩ | ⟨_, _, e⟩ | ⟨_, _, e⟩ <;> rw [e] <;> simp
  · exact h

/-- The timeouts are read only. -/
theorem Debouncer.call_toRise (d : Debouncer) (bypass lg : Bool) (now : Word32) :
    (d.call bypass lg now).1.toRise = d.toRise := by
  cases bypass <;> simp [Debouncer.call]

theorem Debouncer.call_toFall (d : Debouncer) (bypass lg : Bool) (now : Word32) :
    (d.call bypass lg now).1.toFall = d.toFall := by
  cases bypass <;> simp [Debouncer.call]

/-- The three buttons are stepped each by its own call. -/
theorem stepButtons_get (bypass pins : BitVec 3) (s : State) (b : Button) :
    (stepButtons bypass pins s).buttons.get b = (buttonCall s.buttons bypass pins s.arg b).1 := by
  cases b <;> rfl

end Sys2Proof.Machine
end

