-- ==== Sys2Proof/Laws/Duties.lean ====
section
/-! SUPPORT. What a host that keeps its duties (spec/60_exceptions.md R840) can and cannot do at one step. -/

namespace Sys2Proof.Machine

/-- A schedule that keeps the duties keeps them at its first step and after it. -/
theorem State.keepsDuties_step {s t : State} {now : Stamp} {later : List Stamp} {h : HostLog} (hs : step s = .next t) :
    s.keepsDuties (now :: later) h = (s.moveKeepsDuties h now && t.keepsDuties later (h.after now s t)) := by
  simp [State.keepsDuties, hs]

/-- The duties of a command of the next move. -/
theorem State.moveKeepsDuties_command {s : State} {h : HostLog} {now : Stamp} {w : CmdWord} {a : Word32}
    {rest : List Input} {i : Instr} (hp : s.pending = .command w a :: rest) (hd : decode w = .ok i)
    (hk : s.moveKeepsDuties h now = true) :
    quietAfterHalt s w = true ∧ analysesCompleteCycle s i = true ∧ consumesCycleOnce h s i = true ∧
      refreshesOncePerTick h now s i = true ∧ debouncesOncePerLoop h now a i = true := by
  simp only [State.moveKeepsDuties, hp, List.head?_cons, transactionKeepsDuties, hd, Bool.and_eq_true] at hk
  obtain ⟨-, quiet, ⟨⟨analysis, consume⟩, tick⟩, debounce⟩ := hk
  exact ⟨quiet, analysis, consume, tick, debounce⟩

/-- No skipped cycle: a completed cycle is re-armed only after an update. -/
theorem updated_of_rearm {s : State} {h : HostLog} {i : Instr} (hi : i = .smpStart ∨ i = .smpNext)
    (hm : s.mode = .run) (hc : s.cycleComplete = true) (hk : consumesCycleOnce h s i = true) : h.updated = true := by
  have hb : s.busy = false := by simp [State.cycleComplete] at hc; exact hc.1
  rcases hi with rfl | rfl <;> simpa [consumesCycleOnce, State.captureIdle, hm, hb, hc] using hk

/-- No second update: LVL.UPDATE takes effect only on a completed cycle that has had none. -/
theorem fresh_of_update {s : State} {h : HostLog} (hm : s.mode = .run) (hb : s.busy = false)
    (ha : analysesCompleteCycle s .lvlUpdate = true) (hk : consumesCycleOnce h s .lvlUpdate = true) :
    s.cycleComplete = true ∧ h.updated = false := by
  constructor
  · simpa [analysesCompleteCycle, State.captureIdle, hm, hb] using ha
  · simpa [consumesCycleOnce, State.captureIdle, hm, hb] using hk

/-- A main-loop cycle is left only for the next one, and only after its DBN.STEP. -/
theorem debounced_of_next_loop {s : State} {h : HostLog} {now e : Stamp} (he : h.last = some e) (hl : e.loop ≠ 0)
    (hn : now.loop ≠ e.loop) (hk : s.moveKeepsDuties h now = true) :
    now.loop = e.loop + 1 ∧ h.debouncedIn e.loop = true := by
  simp only [State.moveKeepsDuties, HostLog.precedes, sinceLast, he, Option.all_some, Bool.and_eq_true, Bool.or_eq_true,
    decide_eq_true_eq] at hk
  rcases hk.1.2 with same | ⟨next, boot | done⟩
  · exact absurd same hn
  · exact absurd boot hl
  · exact ⟨next, done⟩

/-- A main-loop cycle has at most one DBN.STEP, with the time of the Clock. -/
theorem fresh_of_debounce {h : HostLog} {now : Stamp} {a : Word32} {bypass pins : BitVec 3}
    (hk : debouncesOncePerLoop h now a (.dbnStep bypass pins) = true) :
    a = .ofNat 32 now.time ∧ now.loop ≠ 0 ∧ h.debouncedIn now.loop = false := by
  simpa [debouncesOncePerLoop, and_assoc] using hk

/-- Two refreshes stand in different ticks. -/
theorem later_tick_of_refresh {s : State} {h : HostLog} {now earlier : Stamp} (he : h.lastRefresh = some earlier)
    (hk : refreshesOncePerTick h now s .rndRef = true) :
    earlier.time / tickMicros s.params.renderTick < now.time / tickMicros s.params.renderTick := by
  simpa [refreshesOncePerTick, sinceLast, he] using hk

end Sys2Proof.Machine
end

