-- ==== Sys2Proof/Laws/Level.lean ====
section
/-! SUPPORT. Bounds of the level meter: the sizes of spec/00_scope.md R9, the RMS within 2^SW (spec/42_level.md R500),
and the filter step within the distance it has to go (R503). -/

namespace Sys2Proof.Machine

/-- 8 ≤ N ≤ 4096 (spec/00_scope.md R8). -/
theorem captureLen_bounds {p : Params} (h : p.Valid) : 8 ≤ p.captureLen ∧ p.captureLen ≤ 4096 :=
  ⟨(Nat.pow_le_pow_right (by omega) h.1.1 : 2 ^ 3 ≤ 2 ^ p.log2N),
    (Nat.pow_le_pow_right (by omega) h.1.2.1 : 2 ^ p.log2N ≤ 2 ^ 12)⟩

/-- ALPHA_M is below 1000 for every weight (spec/00_scope.md R9). -/
theorem alpha_lt (p : Params) (c : Channel) : p.alpha c < 1000 := by
  unfold Params.alpha Config.lpfScale
  rw [Nat.div_lt_iff_lt_mul (by omega)]
  omega

/-- Every squared deviation is at most 4^SW. -/
theorem sumSquares_le {p : Params} {xs : List Int} (hp : p.Valid) (hx : ∀ v ∈ xs, p.SampleInRange v) :
    sumSquares p xs ≤ xs.length * (2 ^ p.sw * 2 ^ p.sw) := by
  have half : (2 ^ p.sw : Nat) = 2 * 2 ^ (p.sw - 1) := by
    have := hp.1.2.2.1
    rw [← pow_succ']; congr 1; omega
  have cast : ((2 ^ (p.sw - 1) : Nat) : Int) = 2 ^ (p.sw - 1) := by push_cast; rfl
  have mid := hp.1.2.2.2.2
  induction xs with
  | nil => simp [sumSquares]
  | cons x xs ih =>
    have rest := ih fun v hv => hx v (by simp [hv])
    obtain ⟨lo, hi⟩ := hx x (by simp)
    rw [← cast] at lo hi
    have deviation : (x - p.midscale).natAbs ≤ 2 ^ p.sw := by omega
    have square : (x - p.midscale).natAbs ^ 2 ≤ 2 ^ p.sw * 2 ^ p.sw := by
      rw [pow_two]; exact Nat.mul_self_le_mul_self deviation
    simp only [sumSquares, List.map_cons, List.sum_cons, List.length_cons] at rest ⊢
    rw [Nat.succ_mul]
    omega

/-- The RMS is at most 2^SW (spec/42_level.md R500). -/
theorem rms_le {s : State} (hp : s.params.Valid) (hw : s.mem.wf s.params) : rms s ≤ 2 ^ s.params.sw := by
  have total := sumSquares_le hp hw.2.2
  rw [hw.1] at total
  refine isqrt_le_of_le_mul_self ?_
  rw [State.captured_eq hw]
  exact Nat.div_le_of_le_mul total

/-- The filter step of a distance d is at most d (spec/42_level.md R503). -/
theorem filterStep_le (round : LpfRound) (d : Nat) {alpha : Nat} (h : alpha < 1000) :
    filterStep round (d * alpha) ≤ d := by
  have : d * alpha ≤ d * 999 := Nat.mul_le_mul_left _ (by omega)
  unfold filterStep
  cases round <;> dsimp only <;> omega

/-- The filter below its input adds the step. -/
theorem lpf_below (round : LpfRound) (alpha : Nat) {raw out : Nat} (h : out < raw) :
    lpf round alpha raw out = ((out + filterStep round ((raw - out) * alpha) : Nat) : Int) := by
  have distance : ((raw : Int) - out).natAbs = raw - out := by omega
  simp only [lpf, distance]
  rw [if_neg (by omega), if_pos (by omega)]
  push_cast
  rfl

/-- The filter above its input takes the step away. -/
theorem lpf_above (round : LpfRound) {alpha : Nat} (ha : alpha < 1000) {raw out : Nat} (h : raw < out) :
    lpf round alpha raw out = ((out - filterStep round ((out - raw) * alpha) : Nat) : Int) := by
  have distance : ((raw : Int) - out).natAbs = out - raw := by omega
  have step := filterStep_le round (out - raw) ha
  simp only [lpf, distance]
  rw [if_neg (by omega), if_neg (by omega)]
  omega

/-- The filter at its input stays. -/
theorem lpf_same (round : LpfRound) (alpha x : Nat) : lpf round alpha x x = (x : Int) := by
  simp [lpf]

end Sys2Proof.Machine
end

