-- ==== Sys2Proof/Laws/PerInstr.lean ====
section
/-! SUPPORT. Per command: its encoding loses no bit of the word's value (spec/30_encoding.md R303-R312). -/

namespace Sys2Proof.Laws.EncodeKeepsValue

/-- The 16-bit word of a well-formed command has the value the format gives it: no operand bit is cut off. -/
def Statement (i : Instr) : Prop := i.wellFormed = true → (encode i).toNat = i.wordValue

theorem of_lt {i : Instr} (h : i.wordValue < 2 ^ 16) : (encode i).toNat = i.wordValue := by
  simpa [encode] using h

theorem bit_le_one (c : Channel) : c.bit ≤ 1 := by cases c <;> decide

theorem sel_le_one (f : LevelSel) : f.bit ≤ 1 := by cases f <;> decide

theorem nop : Statement .nop := fun _ => of_lt (by decide)
theorem smpStart : Statement .smpStart := fun _ => of_lt (by decide)
theorem smpNext : Statement .smpNext := fun _ => of_lt (by decide)
theorem lvlRms : Statement .lvlRms := fun _ => of_lt (by decide)
theorem lvlFilt (c : Channel) : Statement (.lvlFilt c) := fun _ =>
  of_lt (by have := bit_le_one c; simp only [Instr.wordValue]; omega)
theorem lvlUpdate : Statement .lvlUpdate := fun _ => of_lt (by decide)
theorem fftRun : Statement .fftRun := fun _ => of_lt (by decide)
theorem dbMap (cells : Nat) : Statement (.dbMap cells) := fun h =>
  of_lt (by have := of_decide_eq_true h; simp only [Instr.wordValue]; omega)
theorem rndAct (t : Nat) : Statement (.rndAct t) := fun h =>
  of_lt (by have := of_decide_eq_true h; simp only [Instr.wordValue]; omega)
theorem rndRef : Statement .rndRef := fun _ => of_lt (by decide)
theorem dbnStep (bypass pins : BitVec 3) : Statement (.dbnStep bypass pins) := fun _ =>
  of_lt (by have := bypass.isLt; have := pins.isLt; simp only [Instr.wordValue]; omega)
theorem rdStat : Statement .rdStat := fun _ => of_lt (by decide)
theorem rdSpec (k : Nat) : Statement (.rdSpec k) := fun h =>
  of_lt (by have := of_decide_eq_true h; simp only [Instr.wordValue]; omega)
theorem rdLvl (f : LevelSel) (c : Channel) : Statement (.rdLvl f c) := fun _ =>
  of_lt (by have := bit_le_one c; have := sel_le_one f; simp only [Instr.wordValue]; omega)
theorem rdCap (k : Nat) : Statement (.rdCap k) := fun h =>
  of_lt (by have := of_decide_eq_true h; simp only [Instr.wordValue]; omega)
theorem sysReset : Statement .sysReset := fun _ => of_lt (by decide)
theorem sysHalt : Statement .sysHalt := fun _ => of_lt (by decide)

end Sys2Proof.Laws.EncodeKeepsValue
end

