-- ==== Sys2Proof/Laws/Renderer.lean ====
section
/-! SUPPORT. What the display helpers emit: it fits the display (spec/10_state.md R140, spec/43_renderer.md R605), and how
many fields and characters it has. -/

namespace Sys2Proof.Machine

theorem fieldOps_fits {p : Params} (hp : p.Valid) (codes : List CharCode) :
    ∀ op ∈ fieldOps p codes, op.fits p = true := by
  have columns := hp.2.2.2.1
  have rows := hp.2.2.2.2.1
  intro op h
  simp only [fieldOps, List.mem_cons, List.mem_map] at h
  rcases h with rfl | ⟨c, _, rfl⟩
  · simp only [DisplayOp.fits, Bool.and_eq_true, decide_eq_true_eq]; omega
  · rfl

theorem loadSet_fits (p : Params) {set : List GlyphBits} (hl : set.length ≤ 7) :
    ∀ op ∈ loadSet set, op.fits p = true := by
  intro op h
  obtain ⟨k, g, rfl, _, hk⟩ := mem_loadSetFrom h
  exact decide_eq_true (show k < 7 by omega)

theorem append_fits {p : Params} {a b : List DisplayOp} (ha : ∀ op ∈ a, op.fits p = true)
    (hb : ∀ op ∈ b, op.fits p = true) : ∀ op ∈ a ++ b, op.fits p = true := by
  intro op h
  rcases List.mem_append.mp h with h | h
  · exact ha op h
  · exact hb op h

theorem phaseEntryOps_fits {p : Params} (hp : p.Valid) (f : Phase) : ∀ op ∈ phaseEntryOps p f, op.fits p = true := by
  have sets := hp.2.2.1
  cases f
  · exact append_fits (fieldOps_fits hp _) (loadSet_fits p (by omega))
  · intro op h; cases h
  · exact append_fits (fieldOps_fits hp _) (loadSet_fits p (by omega))
  · intro op h; cases h

theorem activationOps_fits {p : Params} (hp : p.Valid) (m : Meter) : ∀ op ∈ activationOps p m, op.fits p = true := by
  have sets := hp.2.2.1
  cases m
  · exact loadSet_fits p (by omega)
  · exact append_fits (fieldOps_fits hp _) (loadSet_fits p (by omega))
  · exact loadSet_fits p (by omega)

theorem phaseDrawOps_fits {s : State} (hp : s.params.Valid) (f : Phase) :
    ∀ op ∈ phaseDrawOps s f, op.fits s.params = true := by
  cases f
  · intro op h; cases h
  · exact fieldOps_fits hp _
  · intro op h; cases h
  · exact fieldOps_fits hp _

theorem diagnosticOps_fits {p : Params} (hp : p.Valid) : ∀ op ∈ diagnosticOps p, op.fits p = true := by
  have columns := hp.2.2.2.1
  have rows := hp.2.2.2.2.1
  intro op h
  simp only [diagnosticOps, List.mem_cons, List.mem_map] at h
  rcases h with rfl | rfl | ⟨c, _, rfl⟩
  · rfl
  · simp only [DisplayOp.fits, Bool.and_eq_true, decide_eq_true_eq]; omega
  · rfl

/-- A set loaded is the list of its GLYPH operations, slot by slot. -/
theorem loadSetFrom_eq (slot : Nat) (set : List GlyphBits) :
    loadSetFrom slot set = (set.zipIdx slot).map fun g => .glyph g.2 g.1 := by
  induction set generalizing slot with
  | nil => rfl
  | cons g gs ih => simp [loadSetFrom, ih]

/-- No cell of a field is a glyph load. -/
theorem fieldOps_no_glyph (p : Params) (codes : List CharCode) : ∀ op ∈ fieldOps p codes, op.isGlyph = false := by
  intro op h
  simp only [fieldOps, List.mem_cons, List.mem_map] at h
  rcases h with rfl | ⟨c, _, rfl⟩ <;> rfl

/-- Characters place no cursor. -/
@[simp] theorem countP_isCursor_chars (codes : List CharCode) :
    (codes.map DisplayOp.char).countP DisplayOp.isCursor = 0 := by
  induction codes <;> simp_all [DisplayOp.isCursor]

/-- Each character counts once. -/
@[simp] theorem countP_isChar_chars (codes : List CharCode) :
    (codes.map DisplayOp.char).countP DisplayOp.isChar = codes.length := by
  induction codes <;> simp_all [List.countP_cons, DisplayOp.isChar]

/-- A field is one field. -/
@[simp] theorem fieldOps_countP_isCursor (p : Params) (codes : List CharCode) :
    (fieldOps p codes).countP DisplayOp.isCursor = 1 := by
  rw [fieldOps, List.countP_cons, countP_isCursor_chars]; rfl

/-- A field has as many characters as codes. -/
@[simp] theorem fieldOps_countP_isChar (p : Params) (codes : List CharCode) :
    (fieldOps p codes).countP DisplayOp.isChar = codes.length := by
  rw [fieldOps, List.countP_cons, countP_isChar_chars]; simp [DisplayOp.isChar]

/-- A glyph load is no field. -/
@[simp] theorem loadSetFrom_countP_isCursor (slot : Nat) (set : List GlyphBits) :
    (loadSetFrom slot set).countP DisplayOp.isCursor = 0 := by
  induction set generalizing slot with
  | nil => rfl
  | cons g gs ih => simp [loadSetFrom, ih, DisplayOp.isCursor]

/-- A glyph load writes no character. -/
@[simp] theorem loadSetFrom_countP_isChar (slot : Nat) (set : List GlyphBits) :
    (loadSetFrom slot set).countP DisplayOp.isChar = 0 := by
  induction set generalizing slot with
  | nil => rfl
  | cons g gs ih => simp [loadSetFrom, ih, DisplayOp.isChar]

end Sys2Proof.Machine
end

