-- ==== Sys2Proof/Tests/Slice0.lean ====
section
/-! SUPPORT. Tests: decoding of words written out from spec/30_encoding.md R303-R312, the vectors of
spec/95_test_vectors.md (one step each), and for every statement with hypotheses a state and operands that meet them. -/

namespace Sys2Proof.Tests

open Sys2Proof Sys2Proof.Machine

/-! ## Helpers -/

/-- A capture in progress in the reference configuration, the next sample at index n. -/
def armedAt (n : Nat) : State := { State.reset with busy := true, idx := .ofNat 13 n }

/-- A complete capture cycle holding the samples xs. -/
def captured (xs : List Int) : State :=
  { State.reset with mem := { State.reset.mem with capbuf := xs }, idx := 64 }

/-- N samples a, b, a, b, ... -/
def alternating (a b : Int) : List Int := (List.replicate 32 [a, b]).flatten

/-- The state with an operand in ARG. -/
def arg (a : Word32) (s : State) : State := { s with arg := a }

/-- The filtered levels of the two channels. -/
def levels (l r : Word32) (s : State) : State := { s with lpf := ⟨l, r⟩ }

/-- A style activated, its glyphs already loaded. -/
def active (m : Meter) (s : State) : State := { s with meter := m, active := true }

/-- One move to come. -/
def moves (ms : List Input) (s : State) : State := { s with pending := ms }

/-- The outcome is a next state with the property. -/
def nextIs (o : Host.Outcome State Fault Refusal) (p : State → Bool) : Bool :=
  match o with
  | .next t => p t
  | .fault _ => false
  | .refused _ => false

/-- The characters of a list of display operations. -/
def chars (ops : List DisplayOp) : List CharCode :=
  ops.filterMap fun
    | .char c => some c
    | .clear | .cursor _ _ | .glyph _ _ => none

/-! ## Ill-formed terms, one for each check of `Instr.wellFormed` -/

theorem test_cells_over_6_bits_refused : (Instr.dbMap 64).wellFormed = false ∧ (Instr.dbMap 63).wellFormed = true := by
  decide

theorem test_type_over_4_bits_refused : (Instr.rndAct 16).wellFormed = false ∧ (Instr.rndAct 15).wellFormed = true := by
  decide

theorem test_spec_index_over_12_bits_refused :
    (Instr.rdSpec 4096).wellFormed = false ∧ (Instr.rdSpec 4095).wellFormed = true := by decide

theorem test_cap_index_over_12_bits_refused :
    (Instr.rdCap 4096).wellFormed = false ∧ (Instr.rdCap 4095).wellFormed = true := by decide

/-! ## Words of every row, bit by bit from the patterns of R312 -/

theorem test_decode_nop : decode 0b0000000000000000 = .ok .nop := by decide
theorem test_decode_smpStart : decode 0b0001000000000000 = .ok .smpStart := by decide
theorem test_decode_smpNext : decode 0b0010000000000000 = .ok .smpNext := by decide
theorem test_decode_lvlRms : decode 0b0011000000000000 = .ok .lvlRms := by decide
theorem test_decode_lvlFilt :
    decode 0b0100000000000000 = .ok (.lvlFilt .left) ∧ decode 0b0100000000000001 = .ok (.lvlFilt .right) := by decide
theorem test_decode_lvlUpdate : decode 0b0101000000000000 = .ok .lvlUpdate := by decide
theorem test_decode_fftRun : decode 0b0110000000000000 = .ok .fftRun := by decide
theorem test_decode_dbMap : decode 0b0111000000110010 = .ok (.dbMap 50) := by decide
theorem test_decode_rndAct : decode 0b1000000000001001 = .ok (.rndAct 9) := by decide
theorem test_decode_rndRef : decode 0b1001000000000000 = .ok .rndRef := by decide
theorem test_decode_dbnStep : decode 0b1010000000001110 = .ok (.dbnStep 0b001 0b110) := by decide
theorem test_decode_rdStat : decode 0b1011000000000000 = .ok .rdStat := by decide
theorem test_decode_rdSpec : decode 0b1100100000000001 = .ok (.rdSpec 2049) := by decide
theorem test_decode_rdLvl :
    decode 0b1101000000000010 = .ok (.rdLvl .filtered .left) ∧
      decode 0b1101000000000001 = .ok (.rdLvl .raw .right) := by decide
theorem test_decode_rdCap : decode 0b1110000000000011 = .ok (.rdCap 3) := by decide
theorem test_decode_sysReset : decode 0b1111000000000000 = .ok .sysReset := by decide
theorem test_decode_sysHalt : decode 0b1111000000000001 = .ok .sysHalt := by decide

/-- Vectors ENC-2, ENC-3, ENC-5, ENC-7, ENC-9, ENC-11, ENC-14, ENC-17, ENC-18, ENC-19. -/
theorem test_decode_illegal :
    [0x0001, 0x1001, 0x4002, 0x7040, 0x8010, 0xA040, 0xD004, 0xF010].all (fun w => decode w == .error .reservedBits)
      ∧ [0xF002, 0xF00F].all (fun w => decode w == .error .reservedSub) := by decide

theorem test_decodeTableWord : decodeTableWord 16 0xD002 = some (.rdLvl .filtered .left) ∧ decodeTableWord 16 1 = none := by
  decide

/-! ## Vectors -/

/-- ENC-2: an illegal word faults, and STAT is 0x11000000. -/
theorem test_illegal_word_faults :
    nextIs (step (State.reset.withFetchWord 16 0x0001)) (fun t => t.statusWord == 0x11000000 && t.fcmd == 1) := by
  decide +kernel

/-- SMP-1. -/
theorem test_smpStart : nextIs (exec .smpStart State.reset) (fun t => t.statusWord == 0x00000001) := by decide +kernel

/-- SMP-11. -/
theorem test_smpStart_busy :
    nextIs (step ((armedAt 0).withFetchWord 16 0x1000)) (fun t => t.statusWord == 0x21000001 && t.fcmd == 0x1000) := by
  decide +kernel

/-- SMP-8. -/
theorem test_smpNext : nextIs (exec .smpNext (captured (alternating 612 412)))
    (fun t => t.statusWord == 0x00000003 && t.mem.readCap 1 == 412) := by decide +kernel

/-- SMP-3: the last sample clears BUSY. -/
theorem test_sample_last : nextIs (step (moves [.sample 700] (armedAt 63)))
    (fun t => t.statusWord == 0x00004000 && t.mem.readCap 63 == 700) := by decide +kernel

/-- SMP-12: no sample without an armed capture. -/
theorem test_sample_not_enabled :
    nextIs (step (moves [.sample 7] State.reset)) (fun t => decide (t = State.reset)) := by decide +kernel

/-- SMP-4. -/
theorem test_rdCap_negative : nextIs (exec (.rdCap 0) (captured (alternating (-5) 7)))
    (fun t => t.result == 0xFFFFFFFB) := by decide +kernel

/-- SMP-7. -/
theorem test_rdCap_out_of_range : nextIs (exec (.rdCap 64) (captured (alternating (-5) 7)))
    (fun t => t.result == 0) := by decide +kernel

/-- FFT-4: bin 16 is 3200, all others 0. -/
theorem test_fftRun_quarter_wave :
    nextIs (exec .fftRun (captured (List.replicate 16 [612, 512, 412, 512]).flatten))
      (fun t => t.mem.spec == (List.replicate 32 0).set 16 3200) := by decide +kernel

/-- FFT-6: the odd bins 1, 15 and 31 of the reference transform of a step. -/
theorem test_fft_step_bins :
    referenceMagnitudes 6 (List.replicate 32 32767 ++ List.replicate 32 (-32768)) [1, 15, 31] =
      [1335604, 97586, 65614] := by decide +kernel

/-- FFT-9: out of range. -/
theorem test_rdSpec_out_of_range : nextIs (exec (.rdSpec 32) State.reset) (fun t => t.result == 0) := by decide +kernel

/-- RMS-2. -/
theorem test_lvlRms : nextIs (exec .lvlRms (captured (alternating 612 412)))
    (fun t => t.result == 100 && t.level.left == 100 && t.level.right == 0) := by decide +kernel

/-- RMS-5. -/
theorem test_lvlRms_extreme : nextIs (exec .lvlRms (captured (List.replicate 64 (-32768))))
    (fun t => t.result == 33280) := by decide +kernel

/-- LPF-1, second command. -/
theorem test_lvlFilt_rounds_up : nextIs (exec (.lvlFilt .left) (arg 100 (levels 75 0 State.reset)))
    (fun t => t.result == 94 && t.lpf.left == 94) := by decide +kernel

/-- LPF-5: downwards from the top, no wrap. -/
theorem test_lvlFilt_down : nextIs (exec (.lvlFilt .right) (arg 0 (levels 0 0xFFFFFFFF State.reset)))
    (fun t => t.result == 1073741823) := by decide +kernel

/-- LPF-13. -/
theorem test_lvlUpdate : nextIs (exec .lvlUpdate (captured (alternating 612 412)))
    (fun t => t.level.left == 100 && t.lpf.left == 75 && t.result == 75 && t.lpf.right == 0) := by decide +kernel

/-- DBM-1: 227 → 5, 228 → 6, 512 → 7, 3 → 0, 4 → 1. -/
theorem test_dbMap_7 : [227, 228, 512, 3, 4].map (fun v => dbmap Params.ref v 7) = [5, 6, 7, 0, 1] := by decide +kernel

/-- DBM-3 and DBM-4: 2 → 5 in 50 cells; an unsupported count gives 0. -/
theorem test_dbMap_50 : nextIs (exec (.dbMap 50) (arg 2 State.reset)) (fun t => t.result == 5) ∧
    nextIs (exec (.dbMap 51) (arg 512 State.reset)) (fun t => t.result == 0) := by decide +kernel

/-- DBM-5. -/
theorem test_rdLvl : nextIs (exec (.rdLvl .filtered .left) (levels 75 3 State.reset)) (fun t => t.result == 75) := by
  decide +kernel

/-- RND-2: STAT, and the first and last glyph of the upper set after the blank field. -/
theorem test_rndAct_vuLines : nextIs (exec (.rndAct 1) State.reset)
    (fun t => t.statusWord == 0x0000000C && t.dout.length == 16 && t.dout[0]? == some (.cursor 1 0) &&
      t.dout[11]? == some (.glyph 0 0x421000000) && t.dout[15]? == some (.glyph 4 0x7FFF00000)) := by decide +kernel

/-- RND-4: clamped. -/
theorem test_rndAct_clamped : nextIs (exec (.rndAct 9) State.reset)
    (fun t => t.dout == [.glyph 0 0x0000063D8, .glyph 1 0x63D800000, .glyph 2 0x63D8063D8]) := by decide +kernel

/-- RND-11: harrow, 300 and 100. -/
theorem test_rndRef_harrow : nextIs (exec .rndRef (active .vuHarrow (levels 300 100 State.reset)))
    (fun t => chars t.dout == [2, 2, 2, 2, 2, 2, 2, 1, 1, 0x20]) := by decide +kernel

/-- RND-25, refresh 5: the left bar, then the blank field and the lower set, entering BLANK_B. -/
theorem test_rndRef_vuLines_entry :
    nextIs (exec .rndRef { active .vuLines (levels 100 102 State.reset) with vph := .drawLeft, vcnt := 3 })
      (fun t => t.vph == .blankB && t.vcnt == 0 && t.dout.length == 27 &&
        chars t.dout == [4, 4, 4, 4, 4, 4, 4, 0x20, 0x20, 0x20] ++ List.replicate 10 0x20 &&
        t.dout[22]? == some (.glyph 0 0x000004210)) := by decide +kernel

/-- DBN-6 after DBN-5: accepted at exactly the timeout. -/
theorem test_dbnStep_boundary :
    let running : State := { State.reset with buttons := { State.reset.buttons with
      up := { State.reset.buttons.up with armed := true } } }
    nextIs (exec (.dbnStep 0b000 0b110) (arg 49999 running)) (fun t => t.result == 0) ∧
      nextIs (exec (.dbnStep 0b000 0b110) (arg 50000 running)) (fun t => t.result == 0x009) := by decide +kernel

/-- DBN-12: bypass returns the logical input and leaves the timer alone. -/
theorem test_dbnStep_bypass : nextIs (exec (.dbnStep 0b001 0b110) State.reset)
    (fun t => t.result == 0x009 && !t.buttons.up.stable && !t.buttons.up.armed && t.buttons.up.lastOut) := by
  decide +kernel

/-- 45_system.md R751: three samples into a cycle. -/
theorem test_rdStat : nextIs (exec .rdStat (armedAt 3)) (fun t => t.result == 0x00000301) := by decide +kernel

/-- FLT-7: SYS.RESET leaves FAULTED; the outcome of the run it ends is kept (R818). -/
theorem test_sysReset_faulted :
    nextIs (exec .sysReset { armedAt 3 with mode := .faulted, fcode := .busyViolation, fcmd := 0x3000 })
      (fun t => decide (t = { State.reset with endedRuns := [⟨.faulted, .busyViolation, 0x3000⟩] })) := by decide +kernel

/-- FLT-9: SYS.RESET has no effect in HALTED. -/
theorem test_sysReset_halted :
    nextIs (exec .sysReset { armedAt 3 with mode := .halted, fcode := .fatalHalt })
      (fun t => t.statusWord == 0x82000301) := by decide +kernel

/-- FLT-8. -/
theorem test_sysHalt : nextIs (step (State.reset.withFetchWord 16 0xF001))
    (fun t => t.statusWord == 0x82000000 && t.fcmd == 0xF001 &&
      t.dout == [.clear, .cursor 0 0, .char 0x46, .char 0x41, .char 0x54, .char 0x41, .char 0x4C]) := by decide +kernel

/-- FLT-13: EV.SPUR in FAULTED escalates. -/
theorem test_spurious_in_faulted :
    nextIs (step (moves [.spurious] { State.reset with mode := .faulted, fcode := .illegalCmd, fcmd := 1 }))
      (fun t => t.statusWord == 0x92000000 && t.fcmd == 0) := by decide +kernel

/-- FLT-10: RST_N leaves HALTED and does not change DOUT. -/
theorem test_reset_input_halted :
    nextIs (step (moves [.resetAsserted] { State.reset with mode := .halted, fcode := .fatalHalt, dout := [.clear] }))
      (fun t => t.statusWord == 0 && t.dout == [.clear]) := by decide +kernel

/-! ## States and operands that meet the hypotheses of the statements -/

/-- MODE = RUN, with BUSY = 0 and with BUSY = 1, valid parameters, index spaces in form, filter coefficients below 1000:
the hypotheses of `SmpStartArmsCapture`, `SmpNextTogglesAndArms`, `RdCapReadsSignExtendedSample`, `FftRunWritesEveryBin`,
`FftRunIsRepeatable`, `RdSpecReadsBin`, `LvlRmsMeasuresChannel`, `LvlFiltMovesTowardArg`, `LvlUpdateMeasuresAndFilters`,
`DbMapReturnsMapOfArg`, `RdLvlReadsSelectedLevel`, `RndActSelectsAndLoadsGlyphs`, `DbnStepDebouncesEachButton`,
`SysResetResetsUnlessHalted` (whose other clause is in `witness_stopped_moves`). -/
theorem witness_running :
    State.reset.mode = .run ∧ State.reset.busy = false ∧ State.reset.params.Valid ∧
      State.reset.mem.wf State.reset.params ∧ (State.reset.alphaM.get .left).toNat < 1000 ∧
      (State.reset.alphaM.get .right).toNat < 1000 ∧ (armedAt 0).mode = .run ∧ (armedAt 0).busy = true := by
  decide +kernel

/-- A constant capture invariant, in a capture at its first and its last index, after one, and after reset. -/
theorem witness_captureInv :
    State.reset.CaptureInv ∧ (armedAt 0).CaptureInv ∧ (armedAt 63).CaptureInv ∧
      (captured (alternating 612 412)).CaptureInv := by decide +kernel

theorem witness_reset_inv : State.reset.Inv :=
  ⟨by decide +kernel, by decide +kernel, by decide +kernel, by decide +kernel,
    ⟨fun c => by cases c <;> decide +kernel, fun b => by cases b <;> decide +kernel⟩,
    fun b => by cases b <;> decide +kernel, by decide +kernel,
    ⟨by decide +kernel, fun c => by cases c <;> decide +kernel⟩, by decide +kernel, by decide +kernel⟩

/-- `DecodeInvertsEncode`: each operand check at its last value. -/
theorem witness_DecodeInvertsEncode :
    [Instr.dbMap 63, .rndAct 15, .rdSpec 4095, .rdCap 0, .sysHalt].all Instr.wellFormed = true := by decide

theorem witness_EncodeInvertsDecode : decode 0xA03F = .ok (.dbnStep 0b111 0b111) := by decide

/-- `IllegalWordsFaultAndNothingElse`, third clause, and `FirstApplicableCheckFaults` at an illegal word. -/
theorem witness_IllegalWordsFaultAndNothingElse :
    (moves [.command 0x0001 0] State.reset).pending = [.command 0x0001 0] ∧
      (moves [.command 0x0001 0] State.reset).mode = .run ∧ decode 0x0001 = .error .reservedBits := by decide +kernel

theorem witness_StepRunsDecodedCommand :
    (moves [.command 0x4001 9, .spurious] State.reset).pending = .command 0x4001 9 :: [.spurious] ∧
      decode 0x4001 = .ok (.lvlFilt .right) := by decide +kernel

theorem witness_EmptyScheduleWaits : State.reset.pending = [] := rfl

/-- `SampleEventStoresOneSample`, at the lowest and the highest sample value and the first and last index. -/
theorem witness_SampleEventStoresOneSample :
    (moves [.sample (-32768)] (armedAt 0)).mode = .run ∧ (moves [.sample (-32768)] (armedAt 0)).busy = true ∧
      (moves [.sample (-32768)] (armedAt 0)).params.Valid ∧ (moves [.sample (-32768)] (armedAt 0)).CaptureInv ∧
      (armedAt 0).params.SampleInRange (-32768) ∧ (armedAt 63).params.SampleInRange 32767 ∧
      (moves [.sample 32767] (armedAt 63)).CaptureInv := by decide +kernel

/-- `NoSampleWithoutArmedCapture`: each of the two reasons alone. -/
theorem witness_NoSampleWithoutArmedCapture :
    (moves [.sample 7] State.reset).busy = false ∧
      ({ moves [.sample 7] (armedAt 0) with mode := Mode.faulted } : State).mode ≠ .run := by decide +kernel

theorem witness_SpuriousInterruptHalts :
    (moves [.spurious] State.reset).mode ≠ .halted ∧
      ({ moves [.spurious] State.reset with mode := Mode.halted } : State).mode = .halted := by decide +kernel

/-- `ResetSetsEveryRegister`, `FaultedBlockOnlyReadsStatusOrResets`, `HaltedBlockOnlyReadsStatus`: each kind of move in
each mode can be written. -/
theorem witness_stopped_moves :
    ∀ m ∈ [Mode.faulted, .halted], ∀ move ∈ [Input.command 0xB000 1, .command 0xF000 1, .command 0x1000 1,
        .command 0x0001 1, .sample 5, .spurious, .resetAsserted],
      ({ moves [move] (armedAt 3) with mode := m } : State).pending = [move] ∧
        ({ moves [move] (armedAt 3) with mode := m } : State).mode = m := by decide +kernel

theorem witness_CaptureCommandsFaultWhileBusy :
    (armedAt 5).mode = .run ∧ (armedAt 5).busy = true ∧ usesCapture (.rdCap 0) = true ∧ usesCapture .rndRef = false := by
  decide +kernel

/-- `FaultEntryIsPrecise`: a step that enters FAULTED from RUN. -/
theorem witness_FaultEntryIsPrecise :
    (moves [.command 0x3000 0] (armedAt 5)).mode ≠ .faulted ∧
      nextIs (step (moves [.command 0x3000 0] (armedAt 5))) (fun t => t.mode == .faulted) = true := by decide +kernel

/-- `FirstApplicableCheckFaults`: BUSY_VIOLATION, NOT_ACTIVE, and no fault. -/
theorem witness_FirstApplicableCheckFaults :
    (moves [.command 0x2000 0] (armedAt 5)).mode = .run ∧ (moves [.command 0x9000 0] (armedAt 5)).active = false ∧
      decode 0x9000 = .ok .rndRef ∧ (moves [.command 0xB000 0] (armedAt 5)).mode = .run := by decide +kernel

/-- `OnlyResetLeavesFaultedOrHalted`: a run of two steps to its end, cut before the reset; one that is not cut. -/
theorem witness_runs :
    (moves [.command 0x9000 0, .resetAsserted] State.reset).FaultInv ∧
      nextIs (runWithin 2 (moves [.command 0x9000 0, .resetAsserted] State.reset))
        (fun t => t.endsRun && t.fcode == .notActive && t.endedRuns == []) = true ∧
      (moves [.command 0x0000 0, .command 0x1000 0] State.reset).runningThrough 2 = true := by decide +kernel

/-- The parameters of REF with a capture length of 8. -/
def shortCapture : State := State.resetWith { Params.ref with log2N := 3 }

/-- Stamps 1 ms apart, all at boot. -/
def stamps (n : Nat) : List Stamp := (List.range n).map fun k => ⟨1000 * k, 0⟩

/-- A capture cycle of 8 samples, then the commands of a list. -/
def afterCycle (ws : List CmdWord) : State :=
  moves (.command 0x1000 0 :: List.replicate 8 (.sample 612) ++ ws.map fun w => .command w 0) shortCapture

/-- R840, "consume a cycle": the hand-off keeps the duty, a second LVL.UPDATE and a skipped cycle break it (R922). -/
theorem test_duty_consume : (afterCycle [0x5000, 0x6000, 0x2000]).keepsDuties (stamps 12) .start = true ∧
    (afterCycle [0x5000, 0x5000]).keepsDuties (stamps 11) .start = false ∧
    (afterCycle [0x2000]).keepsDuties (stamps 10) .start = false := by decide +kernel

/-- R840, "first cycle": analysis after reset breaks the duty (R921). -/
theorem test_duty_first_cycle : (moves [.command 0x3000 0] shortCapture).keepsDuties (stamps 1) .start = false := by
  decide +kernel

/-- R840, "refresh": 49999 and 50000 microseconds are two ticks of 50 ms, 50000 and 99999 are one. -/
theorem test_duty_refresh :
    (moves [.command 0x8000 0, .command 0x9000 0, .command 0x9000 0] shortCapture).keepsDuties
        [⟨0, 0⟩, ⟨49999, 0⟩, ⟨50000, 0⟩] .start = true ∧
      (moves [.command 0x8000 0, .command 0x9000 0, .command 0x9000 0] shortCapture).keepsDuties
        [⟨0, 0⟩, ⟨50000, 0⟩, ⟨99999, 0⟩] .start = false := by decide +kernel

/-- R840, "debounce": the Clock's time, one call per cycle of the main loop: not two, not in the wrong order. -/
theorem test_duty_debounce :
    (moves [.command 0xA006 5, .command 0xA006 9] shortCapture).keepsDuties [⟨5, 1⟩, ⟨9, 2⟩] .start = true ∧
      (moves [.command 0xA006 5, .command 0xA006 9] shortCapture).keepsDuties [⟨5, 1⟩, ⟨9, 1⟩] .start = false ∧
      (moves [.command 0xA006 9, .command 0xA006 5] shortCapture).keepsDuties [⟨9, 1⟩, ⟨5, 2⟩] .start = false := by
  decide +kernel

/-- R840, "debounce": a cycle of the main loop with no call breaks the duty, before the first call and after the last; so does
a cycle passed over. -/
theorem test_duty_debounce_no_call :
    (moves [.command 0 0, .command 0 0, .command 0 0] shortCapture).keepsDuties [⟨0, 0⟩, ⟨1, 1⟩, ⟨2, 2⟩] .start = false ∧
      (moves [.command 0xA006 0, .command 0 0, .command 0 0] shortCapture).keepsDuties [⟨0, 1⟩, ⟨1, 2⟩, ⟨2, 3⟩] .start
        = false ∧
      (moves [.command 0xA006 0, .command 0xA006 1] shortCapture).keepsDuties [⟨0, 1⟩, ⟨1, 3⟩] .start = false := by
  decide +kernel

/-- R840, "fatal": after SYS.HALT the status read and RST_N keep the duty, another command breaks it. -/
theorem test_duty_fatal :
    (moves [.command 0xF001 0, .command 0xB000 0, .resetAsserted, .command 0 0] shortCapture).keepsDuties (stamps 4) .start
        = true ∧
      (moves [.command 0xF001 0, .command 0xF000 0] shortCapture).keepsDuties (stamps 2) .start = false := by
  decide +kernel

/-- `OnlyResetLeavesFaultedOrHalted`: steps from FAULTED to RUN and out of HALTED, both of which end a run. -/
theorem witness_OnlyResetLeavesFaultedOrHalted :
    (moves [.command 0xF000 0] { State.reset with mode := .faulted }).endsRun = true ∧
      (moves [.resetAsserted] State.reset).endsRun = false ∧
      nextIs (step (moves [.command 0xF000 0] { State.reset with mode := .faulted })) (fun t => t.mode == .run) = true ∧
      nextIs (step (moves [.resetAsserted] { State.reset with mode := .halted })) (fun t => t.mode != .halted) = true := by
  decide +kernel

/-- The encoding clauses: a word with reserved bits 0 and one with a reserved bit 1 in each format with operands, and a
word other than the row's in format N. -/
theorem witness_encoding_clauses :
    (0x4001 : CmdWord).field 15 12 = 4 ∧ (0x4001 : CmdWord).field 11 1 = 0 ∧ (0x4002 : CmdWord).field 11 1 ≠ 0 ∧
      (0x703F : CmdWord).field 11 6 = 0 ∧ (0x7040 : CmdWord).field 11 6 ≠ 0 ∧ (0x800F : CmdWord).field 11 4 = 0 ∧
      (0x8010 : CmdWord).field 11 4 ≠ 0 ∧ (0xD003 : CmdWord).field 11 2 = 0 ∧ (0xD004 : CmdWord).field 11 2 ≠ 0 ∧
      (0xEFFF : CmdWord).field 15 12 = 0xE ∧ (0xCFFF : CmdWord).field 15 12 = 0xC ∧
      (0x1001 : CmdWord).field 15 12 = 1 ∧ (0xF00F : CmdWord).field 15 12 = 0xF := by decide

/-- `RdCapReadsSignExtendedSample`, `RdSpecReadsBin`: the last index inside and the first outside. -/
theorem witness_readback_bounds :
    63 < State.reset.params.captureLen ∧ State.reset.params.captureLen ≤ 64 ∧
      31 < State.reset.params.binCount ∧ State.reset.params.binCount ≤ 32 := by decide +kernel

theorem witness_SysHaltEntersFatalHalt :
    ({ State.reset with cmd := 0xF001 } : State).mode = .run ∧ ({ State.reset with cmd := 0xF001 } : State).cmd = 0xF001 ∧
      ({ State.reset with mode := .faulted } : State).mode ≠ .run := by decide +kernel

/-- `FftRunWritesEveryBin`, the last clause: a bin other than bin 0. -/
theorem witness_FftRunWritesEveryBin : 0 < 31 ∧ 31 < State.reset.params.binCount := by decide +kernel

/-- `ReferenceImpulseIsFlat`, `ReferenceConstantHasNoBins`. -/
theorem witness_ReferenceImpulseIsFlat :
    Params.ref.Valid ∧ Params.ref.fftMag = .reference ∧ 63 < Params.ref.captureLen ∧ 0 < 31 ∧
      31 < Params.ref.binCount := by decide +kernel

/-- `LvlFiltMovesTowardArg`: the input above, below and at the output. -/
theorem witness_LvlFiltMovesTowardArg :
    (levels 75 200 (arg 100 State.reset)).lpf.left.toNat < (arg 100 State.reset).arg.toNat ∧
      (arg 100 State.reset).arg.toNat < (levels 75 200 (arg 100 State.reset)).lpf.right.toNat ∧
      (levels 100 0 (arg 100 State.reset)).lpf.left = (arg 100 State.reset).arg := by decide +kernel

/-- `DbmapReturnsScanCounter`: a supported and an unsupported count, a value at a threshold and one below every one. -/
theorem witness_DbmapReturnsScanCounter :
    (7 ∈ [50, 10, 7]) ∧ (8 ∉ [50, 10, 7]) ∧ 0 < dbmap Params.ref 4 7 ∧ dbmap Params.ref 3 7 = 0 := by decide +kernel

theorem witness_DbmapIsMonotoneAndBounded : 227 ≤ 228 ∧ 10 ∈ [50, 10, 7] := by decide

theorem witness_FilterNeverOvershoots :
    nextIs (exec (.lvlFilt .left) (arg 100 State.reset)) (fun _ => true) = true := by decide +kernel

theorem witness_FilterConvergesToConstantInput :
    State.reset.params.lpfRound = .away ∧ 0 < (State.reset.alphaM.get .left).toNat ∧
      (State.reset.alphaM.get .left).toNat < 1000 := by decide +kernel

theorem witness_RefreshBeforeActivationFaults : State.reset.mode = .run ∧ State.reset.active = false := by decide +kernel

/-- `FftRefreshDrawsRunHeights`, `VuLinesRefreshDrawsAndCounts`, `VuLinesPhaseLastsItsLength`,
`HarrowRefreshDrawsBothLevels`: each style, active and in RUN; for VU_LINES a phase before and at its last refresh. -/
theorem witness_refresh :
    (∀ m ∈ [Meter.fftVertical, .vuLines, .vuHarrow],
      (active m State.reset).mode = .run ∧ (active m State.reset).active = true ∧ (active m State.reset).meter = m) ∧
      (active .vuLines State.reset).params.Valid ∧ (active .vuLines State.reset).vcnt = 0 ∧
      (∀ f ∈ [Phase.blankA, .drawLeft, .blankB, .drawRight], 0 < phaseLength Params.ref f) ∧
      0 + 1 < phaseLength Params.ref .drawLeft ∧ 3 + 1 = phaseLength Params.ref .drawRight ∧
      0 + 1 = phaseLength Params.ref .blankA ∧ 0 + 1 = phaseLength Params.ref .blankB := by decide +kernel

theorem witness_VubarShowsFullPartialAndPadding : 50 ≤ 50 ∧ 9 < (vubar Params.ref 50).length ∧ 0 ≤ 50 := by decide +kernel

/-- `GlyphsLoadOnlyOnActivationOrBlankEntry`: a refresh that loads glyphs. -/
theorem witness_GlyphsLoadOnlyOnActivationOrBlankEntry :
    nextIs (exec .rndRef { active .vuLines State.reset with vph := .drawLeft, vcnt := 3 })
      (fun t => t.dout.any DisplayOp.isGlyph) = true := by decide +kernel

/-- `DbnStepDebouncesEachButton`: pressed and released, with and without bypass, and a bit above the report. -/
theorem witness_DbnStepDebouncesEachButton :
    bypassBit 0b001 .up = true ∧ bypassBit 0b001 .select = false ∧ logicalPin 0b110 .up = true ∧
      logicalPin 0b110 .down = false ∧ 9 ≤ 31 := by decide

/-- `DebounceAcceptsExactlyAtTimeout`: calls at 0, 40000 and 49999, then at 50000. -/
theorem witness_DebounceAcceptsExactlyAtTimeout :
    true ≠ (Debouncer.reset Params.ref).stable ∧ (Debouncer.reset Params.ref).armed = false ∧
      (Debouncer.reset Params.ref).toRise.toNat = 50000 ∧ ((40000 : Word32) - 0).toNat = 40000 ∧
      ((49999 : Word32) - 0).toNat = 49999 ∧ ((50000 : Word32) - 0).toNat = 50000 :=
  ⟨by decide, rfl, rfl, rfl, rfl, rfl⟩

/-- `StepKeepsCaptureInvariant`, `StepKeepsStateInvariant`, `ConstantsNeverChange`, `DisplayStreamIsAppendOnly`,
`CaptureInvariantNeverStops`: a step from a state with every invariant. -/
theorem witness_step_from_inv :
    State.reset.Inv ∧ nextIs (step State.reset) (fun _ => true) = true :=
  ⟨witness_reset_inv, by decide +kernel⟩

theorem witness_ResetMeetsStateInvariant : Params.ref.Valid := by decide +kernel

/-- `IndexSpacesHaveOneWriter`: a step that changes CAPBUF, and one that changes SPEC. -/
theorem witness_IndexSpacesHaveOneWriter :
    nextIs (step (moves [.sample 9] (armedAt 2))) (fun t => decide (t.mem.capbuf ≠ (armedAt 2).mem.capbuf)) = true ∧
      nextIs (step (moves [.command 0x6000 0] (captured (612 :: List.replicate 63 512))))
        (fun t => decide (t.mem.spec ≠ State.reset.mem.spec)) = true ∧
      ¬ (moves [.command 0x6000 0] State.reset).ResetNext ∧ ¬ (moves [.sample 9] (armedAt 2)).ResetNext := by
  refine ⟨by decide +kernel, by decide +kernel, ?_, ?_⟩
  · rintro (h | ⟨a, h⟩) <;> simp [moves] at h
  · rintro (h | ⟨a, h⟩) <;> simp [moves] at h

/-- `BusyFallsOnlyWithTheLastSample`: a step in which BUSY falls. -/
theorem witness_BusyFallsOnlyWithTheLastSample :
    (armedAt 63).busy = true ∧ nextIs (step (moves [.sample 9] (armedAt 63))) (fun t => !t.busy) = true ∧
      ¬ (moves [.sample 9] (armedAt 63)).ResetNext := by
  refine ⟨by decide +kernel, by decide +kernel, ?_⟩
  rintro (h | ⟨a, h⟩) <;> simp [moves] at h

/-- `CaptureCycleCompletes`: two samples lack. -/
theorem witness_CaptureCycleCompletes :
    Params.ref.Valid ∧ (moves ([1, -1].map .sample ++ [.spurious]) (armedAt 62)).CaptureInv ∧
      (armedAt 62).params = Params.ref ∧ (armedAt 62).mode = .run ∧ (armedAt 62).busy = true ∧
      (armedAt 62).idx.toNat + [1, -1].length = (armedAt 62).params.captureLen ∧
      (∀ v ∈ [1, -1], (armedAt 62).params.SampleInRange v) := by decide +kernel

/-- `OnlyNamedCommandsWriteResult`, `OtherCommandsIgnoreArg`, `ReadbacksAreIdempotent`. -/
theorem witness_command_lists :
    writesResult .fftRun = false ∧ readsArg .lvlUpdate = false ∧ isReadback .rdStat = true ∧
      isReadback (.rdCap 3) = true ∧ State.reset.busy = false ∧
      (moves [.spurious] State.reset).pending.head? = some .spurious ∧
      (moves [.sample 2] (armedAt 1)).pending.head? = some (.sample 2) := by decide +kernel

end Sys2Proof.Tests
end

section
/-! PROOFS. ARG is the operand of LVL.FILT, DB.MAP and DBN.STEP alone (spec/30_encoding.md R315): every effect the other
commands are built from commutes with a write of ARG, and the checks of spec/60_exceptions.md R806 keep that. -/

namespace Sys2Proof.Machine

/-- ARG <- a (spec/10_state.md R102). -/
def State.withArg (s : State) (a : Word32) : State := { s with arg := a }

/-- An effect neither reads nor writes ARG: it does the same, but for ARG itself, whatever ARG is. -/
def IgnoresArg (act : State → State) : Prop := ∀ s a, act (s.withArg a) = (act s).withArg a

/-- A choice between two effects by a condition that ARG is no part of. -/
theorem ignoresArg_ite {p : State → Prop} [DecidablePred p] {act other : State → State}
    (hp : ∀ s a, p (s.withArg a) ↔ p s) (h : IgnoresArg act) (ho : IgnoresArg other) :
    IgnoresArg (fun s => if p s then act s else other s) := by
  intro s a
  by_cases holds : p s
  · simpa only [hp, holds, if_true] using h s a
  · simpa only [hp, holds, if_false] using ho s a

/-! The checks read MODE, BUSY and ACTIVE, and a fault takes FCMD from CMD. -/

theorem ignoresArg_raiseFault (code : FaultCode) : IgnoresArg (State.raiseFault code) := fun _ _ => rfl

theorem ignoresArg_whenRunning {act : State → State} (h : IgnoresArg act) :
    IgnoresArg (fun s => whenRunning s act) :=
  ignoresArg_ite (p := fun s => s.mode = .run) (fun _ _ => Iff.rfl) h fun _ _ => rfl

theorem ignoresArg_unlessBusy {act : State → State} (h : IgnoresArg act) :
    IgnoresArg (fun s => unlessBusy s act) :=
  ignoresArg_ite (p := fun s => s.busy = true) (fun _ _ => Iff.rfl) (ignoresArg_raiseFault _) h

theorem ignoresArg_whenActive {act : State → State} (h : IgnoresArg act) :
    IgnoresArg (fun s => whenActive s act) :=
  ignoresArg_ite (p := fun s => s.active = true) (fun _ _ => Iff.rfl) h (ignoresArg_raiseFault _)

/-! The effects behind the checks. -/

theorem ignoresArg_setResult {value : State → Word32} (h : ∀ s a, value (s.withArg a) = value s) :
    IgnoresArg (fun s => s.setResult (value s)) := fun s a => congrArg (s.withArg a).setResult (h s a)

theorem ignoresArg_measureLevel : IgnoresArg measureLevel := fun _ _ => rfl

theorem ignoresArg_updateLevel : IgnoresArg (fun s => filterChannel s.ch (rms s) (measureLevel s)) := fun _ _ => rfl

theorem ignoresArg_runFft : IgnoresArg (fun s => s.setSpec (spectrumBins s.params s.captured)) := fun _ _ => rfl

theorem ignoresArg_activate (t : Nat) : IgnoresArg (activate t) := fun _ _ => rfl

/-- A refresh that ends a phase and one within it (spec/43_renderer.md R623). -/
theorem ignoresArg_refreshVul : IgnoresArg refreshVul :=
  ignoresArg_ite (p := fun s => phaseLength s.params s.vph ≤ s.vcnt.toNat + 1) (fun _ _ => Iff.rfl)
    (fun _ _ => rfl) fun _ _ => rfl

/-- The style selected is METER (spec/43_renderer.md R620). -/
theorem ignoresArg_refresh : IgnoresArg refresh := by
  intro s a
  have kept : (s.withArg a).meter = s.meter := rfl
  cases style : s.meter with
  | fftVertical => simp only [refresh, kept, style]; rfl
  | vuLines => simpa only [refresh, kept, style] using ignoresArg_refreshVul s a
  | vuHarrow => simp only [refresh, kept, style]; rfl

/-- The reset action keeps ARG, and every register it writes takes a value that ARG is no part of. -/
theorem ignoresArg_performReset : IgnoresArg State.performReset := fun _ _ => rfl

theorem ignoresArg_resetUnlessHalted : IgnoresArg (fun s => if s.mode = .halted then s else s.performReset) :=
  ignoresArg_ite (p := fun s => s.mode = .halted) (fun _ _ => Iff.rfl) (fun _ _ => rfl) ignoresArg_performReset

/-- Writing ARG before a command that does not read it is writing ARG after it. -/
theorem exec_withArg {i : Instr} (hi : readsArg i = false) (s : State) (a : Word32) :
    exec i (s.withArg a) = mapNext (·.withArg a) (exec i s) := by
  have next {act : State → State} (h : IgnoresArg act) :
      Host.Outcome.next (φ := Fault) (ρ := Refusal) (act (s.withArg a)) = .next ((act s).withArg a) :=
    congrArg _ (h s a)
  cases i with
  | lvlFilt c | dbMap cells | dbnStep bypass pins => cases hi
  | nop => rfl
  | smpStart => exact next (ignoresArg_whenRunning (ignoresArg_unlessBusy fun _ _ => rfl))
  | smpNext => exact next (ignoresArg_whenRunning (ignoresArg_unlessBusy fun _ _ => rfl))
  | lvlRms => exact next (ignoresArg_whenRunning (ignoresArg_unlessBusy ignoresArg_measureLevel))
  | lvlUpdate => exact next (ignoresArg_whenRunning (ignoresArg_unlessBusy ignoresArg_updateLevel))
  | fftRun => exact next (ignoresArg_whenRunning (ignoresArg_unlessBusy ignoresArg_runFft))
  | rndAct t => exact next (ignoresArg_whenRunning (ignoresArg_activate t))
  | rndRef => exact next (ignoresArg_whenRunning (ignoresArg_whenActive ignoresArg_refresh))
  | rdStat => exact next (ignoresArg_setResult fun _ _ => rfl)
  | rdSpec k => exact next (ignoresArg_whenRunning (ignoresArg_setResult fun _ _ => rfl))
  | rdLvl f c => exact next (ignoresArg_whenRunning (ignoresArg_setResult fun _ _ => rfl))
  | rdCap k => exact next (ignoresArg_whenRunning (ignoresArg_unlessBusy (ignoresArg_setResult fun _ _ => rfl)))
  | sysReset => exact next ignoresArg_resetUnlessHalted
  | sysHalt => exact next (ignoresArg_whenRunning (act := State.raiseFatal .fatalHalt s.cmd) fun _ _ => rfl)

/-- Settles O59: a write of ARG commutes with the command, so its next state differs in ARG alone. -/
theorem otherCommandsIgnoreArg : Obligations.OtherCommandsIgnoreArg := by
  intro i s t a hi hs
  calc exec i (s.withArg a)
    _ = mapNext (·.withArg a) (exec i s) := exec_withArg hi s a
    _ = .next (t.withArg a) := by rw [hs, mapNext_next]

end Sys2Proof.Machine
end

section
/-! PROOFS. The sampler (spec/40_sampler.md): the commands that arm a capture and read it back, behind the checks of
MODE and BUSY (spec/60_exceptions.md R806), and the sample event. -/

namespace Sys2Proof.Machine

/-! A command without operands has one word: its opcode above twelve reserved bits (spec/30_encoding.md R303). -/

/-- OP and CMD[11:0] are the whole word. -/
theorem CmdWord.toNat_eq_fields (w : CmdWord) : w.toNat = w.field 15 12 * 2 ^ 12 + w.field 11 0 := by
  have := w.isLt
  simp only [CmdWord.field]
  omega

/-- An opcode whose row reserves CMD[11:0] decodes from the word with those bits 0 alone. -/
theorem onlyWord_of_reserved {op : Nat} {i : Instr} {w0 : CmdWord}
    (hd : ∀ w : CmdWord, w.field 15 12 = op → decode w = reservedAbove w 0 i)
    (he : encode i = w0) (h0 : w0.toNat = op * 2 ^ 12) : OnlyWord op i w0 := by
  refine ⟨he, fun w hw => ?_⟩
  have low : w = w0 ↔ w.field 11 0 = 0 := by
    have fields := CmdWord.toNat_eq_fields w
    rw [← BitVec.toNat_inj]
    omega
  rw [hd w hw, reservedAbove]
  split
  · next same => rw [if_pos (low.mp same)]
  · next other => exact ⟨.reservedBits, if_neg fun zero => other (low.mpr zero)⟩

/-! The checks before a command of the capture buffer (spec/60_exceptions.md R805, R806). -/

theorem captureGate_idle {s : State} (hm : s.mode = .run) (hb : s.busy = false) (act : State → State) :
    whenRunning s (fun s => unlessBusy s act) = act s := by
  rw [whenRunning_run hm, unlessBusy_idle hb]

theorem captureGate_busy {s : State} (hm : s.mode = .run) (hb : s.busy = true) (act : State → State) :
    whenRunning s (fun s => unlessBusy s act) = s.raiseFault .busyViolation := by
  rw [whenRunning_run hm, unlessBusy_busy hb]

/-- The channel that is not c, as a choice (spec/40_sampler.md R401). -/
theorem otherChannel_eq (c : Channel) : otherChannel c = if c = .left then .right else .left := by
  cases c <;> rfl

/-! Samples in CAPBUF and as RD.CAP reads them (spec/40_sampler.md R402). -/

/-- An element of CAPBUF is an SW-bit sample (spec/10_state.md R110). -/
theorem Memory.readCap_inRange {m : Memory} {p : Params} (h : m.wf p) {k : Nat} (hk : k < p.captureLen) :
    p.SampleInRange (m.readCap k) := by
  obtain ⟨length, -, samples⟩ := h
  have inside : k < m.capbuf.length := by omega
  rw [Memory.readCap, List.getD_eq_getElem _ _ inside]
  exact samples _ (List.getElem_mem inside)

/-- A sample of at most 16 bits, sign-extended to 32 bits, keeps its value. -/
theorem toInt_ofInt_sample {p : Params} {v : Int} (hp : p.Valid) (hv : p.SampleInRange v) :
    (BitVec.ofInt 32 v).toInt = v := by
  obtain ⟨⟨-, -, -, width, -⟩, -⟩ := hp
  have narrow : (2 : Int) ^ (p.sw - 1) ≤ 2 ^ 15 := pow_le_pow_right₀ (by decide) (by omega)
  obtain ⟨lo, hi⟩ := hv
  rw [BitVec.toInt_ofInt]
  exact Int.bmod_eq_of_le (by omega) (by omega)

theorem toInt_capReadout {s : State} {k : Nat} (hk : k < s.params.captureLen) (hp : s.params.Valid)
    (hw : s.mem.wf s.params) : (capReadout s k).toInt = s.mem.readCap k := by
  rw [capReadout, if_pos hk]
  exact toInt_ofInt_sample hp (Memory.readCap_inRange hw hk)

theorem capReadout_outside {s : State} {k : Nat} (hk : s.params.captureLen ≤ k) : capReadout s k = 0 :=
  if_neg hk.not_gt

/-! The sample event (spec/40_sampler.md R421). -/

/-- An enabled sample event with room in CAPBUF stores the sample, whatever moves come after it. -/
theorem step_sample_enabled {s : State} {v : Int} {rest : List Input} (hp : s.pending = .sample v :: rest)
    (hm : s.mode = .run) (hb : s.busy = true) (hi : s.idx.toNat < s.params.captureLen) :
    step s = .next (storeSample v { s with pending := rest }) :=
  (step_move hp).trans (sampleEvent_enabled (s := { s with pending := rest }) hm hb hi v)

/-- IDX counts to N without wrapping: N ≤ 4096 (spec/10_state.md R112). -/
theorem storeSample_idx {s : State} (hp : s.params.Valid) (hi : s.idx.toNat < s.params.captureLen) (v : Int) :
    (storeSample v s).idx.toNat = s.idx.toNat + 1 := by
  obtain ⟨-, longest⟩ := captureLen_bounds hp
  rw [storeSample, BitVec.toNat_ofNat, Nat.mod_eq_of_lt (by omega)]

theorem storeSample_busy (v : Int) (s : State) :
    (storeSample v s).busy = false ↔ s.idx.toNat + 1 = s.params.captureLen := by
  simp [storeSample]

/-- Settles O7: the next state is `storeSample`, and the capture invariant leaves room for the sample in CAPBUF. -/
theorem sampleEventStoresOneSample : Obligations.SampleEventStoresOneSample := by
  rintro s v rest hpending hm hb hp ⟨⟨length, -, -⟩, room, -⟩ hv
  have hi := room hb
  have counted : (storeSample v { s with pending := rest }).idx.toNat = s.idx.toNat + 1 := storeSample_idx hp hi v
  refine ⟨_, step_sample_enabled hpending hm hb hi, ?_, ?_, ?_, rfl, counted, ?_, rfl⟩
  · calc (s.mem.writeCap s.idx.toNat (sampleValue s.params v)).readCap s.idx.toNat
      _ = sampleValue s.params v := Memory.readCap_writeCap_same _ _ _ (hi.trans_eq length.symm)
      _ = v := sampleValue_of_inRange _ _ hp.1.2.2.1 hv
  · exact fun k hk => Memory.readCap_writeCap_other _ _ _ _ hk
  · exact Memory.length_capbuf_writeCap _ _ _
  · rw [counted]
    exact storeSample_busy v _

/-- Settles O21: behind the checks RD.CAP writes `capReadout` to RESULT. -/
theorem rdCapReadsSignExtendedSample : Obligations.RdCapReadsSignExtendedSample := by
  refine ⟨fun w hw => by simp only [decode, hw], fun s k hm => ⟨fun hb => ?_, fun hb => ?_⟩⟩
  · exact ⟨s.setResult (capReadout s k), congrArg _ (captureGate_idle hm hb _), rfl, toInt_capReadout,
      capReadout_outside⟩
  · exact congrArg _ (captureGate_busy hm hb _)

/-- Settles O19: behind the checks SMP.START is `State.armCapture`. -/
theorem smpStartArmsCapture : Obligations.SmpStartArmsCapture := by
  refine ⟨onlyWord_of_reserved (fun w hw => by simp only [decode, hw]) rfl rfl,
    fun s hm => ⟨fun hb => ?_, fun hb => ?_⟩⟩
  · exact congrArg _ (captureGate_idle hm hb _)
  · exact congrArg _ (captureGate_busy hm hb _)

/-- Settles O20: behind the checks SMP.NEXT is `State.toggleChannel`, then `State.armCapture`. -/
theorem smpNextTogglesAndArms : Obligations.SmpNextTogglesAndArms := by
  refine ⟨onlyWord_of_reserved (fun w hw => by simp only [decode, hw]) rfl rfl,
    fun s hm => ⟨fun hb => ?_, fun hb => ?_⟩⟩
  · rw [← otherChannel_eq]
    exact congrArg _ (captureGate_idle hm hb _)
  · exact congrArg _ (captureGate_busy hm hb _)

end Sys2Proof.Machine
end

section
/-! PROOFS. The spectral analyzer (spec/41_spectral.md): the bins FFT.RUN writes and RD.SPEC reads back. -/

namespace Sys2Proof.Machine

/-- A magnitude below 2^32 is held as it is, any other as 2^32 - 1 (spec/41_spectral.md R450). -/
theorem toNat_saturate (v : Nat) : (saturate v).toNat = min v (2 ^ 32 - 1) := by
  rw [saturate, BitVec.toNat_ofNat]
  exact Nat.mod_eq_of_lt (by omega)

theorem saturate_zero : saturate 0 = 0 := rfl

/-- A bin other than bin 0 holds its smoothed magnitude, saturated (spec/41_spectral.md R450). -/
theorem spectrumBins_pos (p : Params) (xs : List Int) {k : Nat} (hk : 0 < k) :
    (spectrumBins p xs).getD k 0 = saturate ((smoothed p (zeroDc (fftMagnitudes p xs))).getD k 0) := by
  calc (spectrumBins p xs).getD k 0
    _ = ((smoothed p (zeroDc (fftMagnitudes p xs))).map saturate).getD k (saturate 0) := by
      rw [spectrumBins, saturate_zero, List.getD_eq_getElem?_getD, List.getElem?_set_ne hk.ne,
        List.getD_eq_getElem?_getD]
    _ = saturate ((smoothed p (zeroDc (fftMagnitudes p xs))).getD k 0) := List.getD_map _ _ _

/-- Settles O25: behind the checks SPEC becomes `spectrumBins` of CAPBUF; every bin but bin 0 is a saturated magnitude. -/
theorem fftRunWritesEveryBin : Obligations.FftRunWritesEveryBin := by
  refine ⟨onlyWord_of_reserved (fun w hw => by simp only [decode, hw]) rfl rfl,
    fun s hm => ⟨fun hb hw => ?_, fun hb => ?_⟩⟩
  · have hrun : exec .fftRun s = .next (s.setSpec (spectrumBins s.params s.mem.capbuf)) := by
      rw [← State.captured_eq hw]
      exact congrArg _ (captureGate_idle hm hb _)
    refine ⟨_, hrun, rfl, rfl, spectrumBins_length _ _, spectrumBins_zero _ _, fun k hk _ => ?_⟩
    rw [State.setSpec_mem, Memory.readSpec_writeSpec, spectrumBins_pos _ _ hk, toNat_saturate]
    rfl
  · exact congrArg _ (captureGate_busy hm hb _)

/-- Settles O29: in RUN, with no check of BUSY, RD.SPEC writes `specReadout` to RESULT. -/
theorem rdSpecReadsBin : Obligations.RdSpecReadsBin :=
  ⟨fun w hw => by simp only [decode, hw], fun _ _ hm => congrArg _ (whenRunning_run hm _)⟩

end Sys2Proof.Machine
end

section
/-! PROOFS. The level meter (spec/42_level.md): the RMS, the filter step and the scan of the dB table, each by what it
computes, and the commands that write them to the level registers and RESULT. -/

namespace Sys2Proof.Machine

/-! The operand bits of an opcode with reserved bits above them (spec/30_encoding.md R302, R313). -/

/-- With the reserved bits 0 the word is its command, with any of them 1 it is illegal. -/
theorem decode_of_reservedAbove {w : CmdWord} {lo : Nat} {i : Instr} (hd : decode w = reservedAbove w lo i) :
    if w.field 11 lo = 0 then decode w = .ok i else ∃ e, decode w = .error e := by
  rw [hd, reservedAbove]
  split
  · rfl
  · exact ⟨_, rfl⟩

/-! The RMS of the captured samples (R500). -/

theorem roundedRoot_isqrt (n : Nat) : RoundedRoot (isqrt n) n := by
  have lo := isqrt_mul_self_le n
  have hi := lt_succ_isqrt n
  rw [RoundedRoot, pow_two, pow_two]
  exact_mod_cast And.intro lo hi

theorem cast_sumSquares (p : Params) (xs : List Int) :
    (sumSquares p xs : Int) = (xs.map fun x => (x - p.midscale) ^ 2).sum := by
  simp [sumSquares, Function.comp_def]

/-- On a full CAPBUF `rms` is the root of the mean square, both rounded down. -/
theorem roundedRoot_rms {s : State} (hw : s.mem.wf s.params) : RoundedRoot (rms s) (meanSquare s) := by
  rw [meanSquare, ← cast_sumSquares, ← State.captured_eq hw, ← Int.natCast_ediv]
  exact roundedRoot_isqrt _

/-- The RMS fits a level register. -/
theorem rms_lt {s : State} (hp : s.params.Valid) (hw : s.mem.wf s.params) : rms s < 2 ^ 32 := by
  have ⟨⟨_, _, _, width, _⟩, _⟩ := hp
  calc rms s
    _ ≤ 2 ^ s.params.sw := rms_le hp hw
    _ < 2 ^ 32 := Nat.pow_lt_pow_right (by decide) (by omega)

/-- Settles O30: behind the checks LVL.RMS is `measureLevel`, which writes `rms`. -/
theorem lvlRmsMeasuresChannel : Obligations.LvlRmsMeasuresChannel := by
  refine ⟨onlyWord_of_reserved (fun w hw => by simp only [decode, hw]) rfl rfl,
    fun s hm => ⟨fun hb hp hw => ?_, fun hb => ?_⟩⟩
  · refine ⟨.ofNat 32 (rms s), congrArg _ (captureGate_idle hm hb _), ?_⟩
    rw [BitVec.toNat_ofNat, Nat.mod_eq_of_lt (rms_lt hp hw)]
    exact ⟨roundedRoot_rms hw, rms_le hp hw⟩
  · exact congrArg _ (captureGate_busy hm hb _)

/-! One filter update (R501). -/

/-- `FilterMoves` with its rounded step named. -/
theorem filterMoves_iff {round : LpfRound} {alpha raw out new : Nat} :
    FilterMoves round alpha raw out new ↔
      (raw = out → new = out) ∧ (out < raw → new = out + filterStep round ((raw - out) * alpha)) ∧
        (raw < out → new + filterStep round ((out - raw) * alpha) = out) := by
  cases round <;> rfl

/-- The filter moves as R501 says, and to no more than the larger of its input and its output (R503). -/
theorem lpf_moves (round : LpfRound) {alpha : Nat} (ha : alpha < 1000) (raw out : Nat) :
    ∃ new : Nat, lpf round alpha raw out = new ∧ FilterMoves round alpha raw out new ∧ new ≤ max raw out := by
  simp only [filterMoves_iff]
  obtain below | rfl | above := Nat.lt_trichotomy out raw
  · have step := filterStep_le round (raw - out) ha
    exact ⟨_, lpf_below round alpha below, by omega, by omega⟩
  · exact ⟨_, lpf_same round alpha out, by omega, by omega⟩
  · have step := filterStep_le round (out - raw) ha
    exact ⟨_, lpf_above round ha above, by omega, by omega⟩

/-- LPF[c] after an update with a 32-bit input holds the filter's value without a wrap. -/
theorem filtered_moves {s : State} {c : Channel} (ha : (s.alphaM.get c).toNat < 1000) {raw : Nat} (hr : raw < 2 ^ 32) :
    FilterMoves s.params.lpfRound (s.alphaM.get c).toNat raw (s.lpf.get c).toNat (filtered s c raw).toNat := by
  obtain ⟨new, value, moves, between⟩ := lpf_moves s.params.lpfRound ha raw (s.lpf.get c).toNat
  have noWrap : new < 2 ^ 32 := between.trans_lt (max_lt hr (s.lpf.get c).isLt)
  rwa [filtered, value, BitVec.ofInt_natCast, BitVec.toNat_ofNat, Nat.mod_eq_of_lt noWrap]

/-- Settles O31: in RUN, with no check of BUSY, LVL.FILT is `filterChannel` of ARG. -/
theorem lvlFiltMovesTowardArg : Obligations.LvlFiltMovesTowardArg :=
  ⟨fun w hw => decode_of_reservedAbove (by simp only [decode, hw, Channel.ofBit]), fun s c hm ha =>
    ⟨filtered s c s.argNat, congrArg _ (whenRunning_run hm _), filtered_moves ha s.arg.isLt⟩⟩

/-- Settles O32: behind the checks LVL.UPDATE is `measureLevel`, which keeps LPF and ALPHA_M, then `filterChannel` of
the RMS. -/
theorem lvlUpdateMeasuresAndFilters : Obligations.LvlUpdateMeasuresAndFilters := by
  refine ⟨onlyWord_of_reserved (fun w hw => by simp only [decode, hw]) rfl rfl,
    fun s hm => ⟨fun hb hp hw ha => ?_, fun hb => ?_⟩⟩
  · refine ⟨.ofNat 32 (rms s), filtered s s.ch (rms s), congrArg _ (captureGate_idle hm hb _), ?_⟩
    rw [BitVec.toNat_ofNat, Nat.mod_eq_of_lt (rms_lt hp hw)]
    exact ⟨roundedRoot_rms hw, filtered_moves ha (rms_lt hp hw)⟩
  · exact congrArg _ (captureGate_busy hm hb _)

/-! The scan of the dB table (R502). -/

/-- From index i on, the scan passes the thresholds above the value and stops at the first one that is not. -/
theorem dbScan_spec (p : Params) (value stride cnt i : Nat) :
    (∀ j, j < cnt - dbScan p value stride cnt i → value < dbtAt p (i + j * stride)) ∧
      (0 < dbScan p value stride cnt i →
        dbtAt p (i + (cnt - dbScan p value stride cnt i) * stride) ≤ value) := by
  induction cnt generalizing i with
  | zero => simp [dbScan]
  | succ cnt ih =>
    obtain ⟨passed, stopped⟩ := ih (i + stride)
    have bound := dbScan_le p value stride cnt (i + stride)
    have later (j : Nat) : i + (j + 1) * stride = i + stride + j * stride := by ring
    rw [dbScan]
    split
    · next found => simpa using found
    · next above =>
      refine ⟨fun j hj => ?_, fun positive => ?_⟩
      · cases j with
        | zero => simpa using above
        | succ j => rw [later]; exact passed j (by omega)
      · rw [Nat.succ_sub bound, Nat.succ_eq_add_one, later]
        exact stopped positive

theorem dbmap_supported {cells : Nat} (h : cells ∈ Config.cellSet) (p : Params) (value : Nat) :
    dbmap p value cells = dbScan p value (p.dbt.length / cells) cells 0 := if_pos h

theorem dbmap_unsupported {cells : Nat} (h : cells ∉ Config.cellSet) (p : Params) (value : Nat) :
    dbmap p value cells = 0 := if_neg h

theorem scanResult_dbmap {cells : Nat} (h : cells ∈ Config.cellSet) (p : Params) (value : Nat) :
    ScanResult p value cells (dbmap p value cells) := by
  rw [dbmap_supported h]
  exact ⟨dbScan_le _ _ _ _ _, by simpa using dbScan_spec p value (p.dbt.length / cells) cells 0⟩

/-- Settles O33: a supported count scans from index 0, any other answers 0. -/
theorem dbmapReturnsScanCounter : Obligations.DbmapReturnsScanCounter :=
  fun p value _ => ⟨fun h => scanResult_dbmap h p value, fun h => dbmap_unsupported h p value⟩

/-- The largest supported cell count is 50. -/
theorem dbmap_le_fifty (p : Params) (value cells : Nat) : dbmap p value cells ≤ 50 := by
  by_cases h : cells ∈ Config.cellSet
  · have largest : ∀ n ∈ Config.cellSet, n ≤ 50 := by decide
    exact (scanResult_dbmap h p value).1.trans (largest cells h)
  · simp [dbmap_unsupported h]

/-- Settles O35: in RUN, with no check of BUSY, DB.MAP writes `dbmap` of ARG to RESULT, where it fits. -/
theorem dbMapReturnsMapOfArg : Obligations.DbMapReturnsMapOfArg := by
  refine ⟨fun w hw => decode_of_reservedAbove (by simp only [decode, hw]), fun s cells hm =>
    ⟨s.setResult (.ofNat 32 (dbmap s.params s.argNat cells)), congrArg _ (whenRunning_run hm _), rfl, ?_⟩⟩
  have fits := dbmap_le_fifty s.params s.argNat cells
  rw [State.setResult_result, BitVec.toNat_ofNat, Nat.mod_eq_of_lt (by omega)]
  rfl

/-- Settles O36: in RUN, with no check of BUSY, RD.LVL writes the selected register to RESULT. -/
theorem rdLvlReadsSelectedLevel : Obligations.RdLvlReadsSelectedLevel :=
  ⟨fun w hw => decode_of_reservedAbove (by simp only [decode, hw, LevelSel.ofBit, Channel.ofBit]), fun _ _ hm =>
    ⟨congrArg _ (whenRunning_run hm _), congrArg _ (whenRunning_run hm _)⟩⟩

end Sys2Proof.Machine
end

section
/-! PROOFS. The renderer (spec/43_renderer.md): the activation of a style, and what a refresh of each style draws, cell
by cell. -/

namespace Sys2Proof.Machine

/-! A field and a glyph set as the operations they append (R604-R606). -/

/-- LOADSET loads every glyph of the set at its slot, in order. -/
theorem loadSet_eq (set : List GlyphBits) : loadSet set = set.zipIdx.map fun g => .glyph g.2 g.1 :=
  loadSetFrom_eq 0 set

theorem blankField_append_loadSet (p : Params) (set : List GlyphBits) :
    blankField p ++ loadSet set = .cursor p.meterRow p.meterCol0 :: List.replicate 10 (.char p.spaceCode) ++
      set.zipIdx.map fun g => .glyph g.2 g.1 := by
  rw [loadSet_eq]
  rfl

/-! Activation (R610, R611). -/

/-- Every operand from 2 on selects VU_HARROW. -/
theorem Meter.clamp_of_two_le {t : Nat} (h : 2 ≤ t) : Meter.clamp t = .vuHarrow := by
  simp only [Meter.clamp, Nat.min_eq_right h]

/-- RND.ACT selects the style of its operand and appends that style's activation action. -/
theorem exec_rndAct_running {s : State} {t : Nat} {m : Meter} {ops : List DisplayOp} (hm : s.mode = .run)
    (style : Meter.clamp t = m) (action : activationOps s.params m = ops) :
    exec (.rndAct t) s = .next { s with
      meter := m, active := true, vph := .blankA, vcnt := 0, dout := s.dout ++ ops } := by
  subst style action
  exact congrArg _ (whenRunning_run hm _)

/-- Settles O39: the operand's style, with its glyph set as `loadSet_eq` lists it. -/
theorem rndActSelectsAndLoadsGlyphs : Obligations.RndActSelectsAndLoadsGlyphs :=
  ⟨fun w hw => decode_of_reservedAbove (by simp only [decode, hw]), fun s hm =>
    ⟨exec_rndAct_running hm rfl (loadSet_eq _), exec_rndAct_running hm rfl (blankField_append_loadSet _ _),
      fun _ ht => exec_rndAct_running hm (Meter.clamp_of_two_le ht) (loadSet_eq _)⟩⟩

/-! The refresh of the selected style (R620). -/

theorem exec_rndRef_active {s : State} (hm : s.mode = .run) (ha : s.active = true) :
    exec .rndRef s = .next (refresh s) :=
  congrArg _ ((whenRunning_run hm _).trans (whenActive_active ha _))

theorem refresh_fftVertical {s : State} (h : s.meter = .fftVertical) : refresh s = s.emit (fftFieldOps s) := by
  simp only [refresh, h]

theorem refresh_vuLines {s : State} (h : s.meter = .vuLines) : refresh s = refreshVul s := by
  simp only [refresh, h]

theorem refresh_vuHarrow {s : State} (h : s.meter = .vuHarrow) : refresh s = s.emit (harrowFieldOps s) := by
  simp only [refresh, h]

/-! FFT_VERTICAL (R621). -/

/-- Settles O41: the codes are those of `fftFieldOps`, one per cell of R9. -/
theorem fftRefreshDrawsRunHeights : Obligations.FftRefreshDrawsRunHeights := by
  intro s hm ha style
  refine ⟨(List.range s.params.fftCells).map fun c => heightCode s.params (dbmap s.params (runSum s.mem c) 7),
    ?_, ?_, fun c h => ?_⟩
  · rw [exec_rndRef_active hm ha, refresh_fftVertical style]
    rfl
  · rw [List.length_map, List.length_range, Params.fftCells]
  · rw [List.getElem_map, List.getElem_range]
    rfl

/-! VU_LINES (R607, R622, R623). -/

/-- R607 without its quotient: cell j stands for the levels 5j + 1 to 5(j + 1), and the partial cell is j = l / 5. -/
theorem vubarCell_eq (p : Params) (l j : Nat) :
    vubarCell p l j =
      if 5 * (j + 1) ≤ l then glyphCode p 4
      else if 5 * j < l then glyphCode p (l - 5 * j - 1)
      else p.spaceCode := by
  refine if_ctx_congr (by omega) (fun _ => rfl) fun notFull => ?_
  refine if_ctx_congr (by omega) (fun part => ?_) fun _ => rfl
  rw [show l / 5 = j by omega]

@[simp] theorem vubar_length (p : Params) (l : Nat) : (vubar p l).length = 10 := by
  rw [vubar, List.length_map, List.length_range, vulCells]

/-- Settles O42: cell j of the bar is `vubarCell` of j. -/
theorem vubarShowsFullPartialAndPadding : Obligations.VubarShowsFullPartialAndPadding := by
  refine fun p l _ => ⟨vubar_length p l, fun j h => ?_⟩
  rw [← vubarCell_eq]
  simp only [vubar, List.getElem_map, List.getElem_range]

/-- A phase lasts no longer than VCNT can count (spec/00_scope.md R8). -/
theorem phaseLength_le {p : Params} (hp : p.Valid) (f : Phase) : phaseLength p f ≤ 255 := by
  obtain ⟨-, -, -, -, -, blankA, drawLeft, blankB, drawRight, -⟩ := hp
  cases f with
  | blankA => exact blankA.2
  | drawLeft => exact drawLeft.2
  | blankB => exact blankB.2
  | drawRight => exact drawRight.2

theorem refreshVul_within {s : State} (h : s.vcnt.toNat + 1 < phaseLength s.params s.vph) :
    refreshVul s = (s.emit (phaseDrawOps s s.vph)).setPhase s.vph (.ofNat 8 (s.vcnt.toNat + 1)) :=
  if_neg h.not_ge

theorem refreshVul_last {s : State} (h : s.vcnt.toNat + 1 = phaseLength s.params s.vph) :
    refreshVul s = ((s.emit (phaseDrawOps s s.vph)).setPhase s.vph.next 0).emit
      (phaseEntryOps s.params s.vph.next) :=
  if_pos h.ge

/-- A refresh of VU_LINES writes VPH, VCNT and DOUT only. -/
theorem refreshVul_frame (s : State) :
    refreshVul s = { s with
      vph := (refreshVul s).vph, vcnt := (refreshVul s).vcnt, dout := (refreshVul s).dout } := by
  unfold refreshVul
  dsimp only
  split <;> rfl

/-- Settles O43: before the last refresh of the phase and at it, where the next phase is entered. -/
theorem vuLinesRefreshDrawsAndCounts : Obligations.VuLinesRefreshDrawsAndCounts := by
  intro s hm ha style hp _ bar load drawn
  have draws : phaseDrawOps s s.vph = drawn := by
    dsimp only [drawn]
    cases s.vph <;> rfl
  refine ⟨refreshVul s, ?_, refreshVul_frame s, fun within => ?_, fun last => ?_⟩
  · rw [exec_rndRef_active hm ha, refresh_vuLines style]
  · have counts : s.vcnt.toNat + 1 < 2 ^ 8 := by have := phaseLength_le hp s.vph; omega
    rw [refreshVul_within within, draws]
    exact ⟨rfl, (BitVec.toNat_ofNat _ _).trans (Nat.mod_eq_of_lt counts), rfl⟩
  · rw [refreshVul_last last, draws]
    refine ⟨rfl, ?_⟩
    clear_value drawn
    cases s.vph with
    | blankA => exact ⟨rfl, List.append_nil _⟩
    | drawLeft => exact ⟨rfl, congrArg _ (blankField_append_loadSet _ _)⟩
    | blankB => exact ⟨rfl, List.append_nil _⟩
    | drawRight => exact ⟨rfl, congrArg _ (blankField_append_loadSet _ _)⟩

/-! VU_HARROW (R624). -/

/-- After the test for both levels, a cell that one level reaches is not reached by the other. -/
theorem harrowCell_eq (p : Params) (l r i : Nat) :
    harrowCell p l r i =
      if i ≤ l ∧ i ≤ r then glyphCode p 2
      else if i ≤ r ∧ l < i then glyphCode p 0
      else if i ≤ l ∧ r < i then glyphCode p 1
      else p.spaceCode := by
  refine if_ctx_congr Iff.rfl (fun _ => rfl) fun notBoth => ?_
  refine if_ctx_congr (by omega) (fun _ => rfl) fun notRight => ?_
  exact if_ctx_congr (by omega) (fun _ => rfl) fun _ => rfl

@[simp] theorem harrowCodes_length (p : Params) (l r : Nat) : (harrowCodes p l r).length = 10 := by
  rw [harrowCodes, List.length_map, List.length_range, harrowCells]

theorem getElem_harrowCodes (p : Params) (l r : Nat) {j : Nat} (h : j < (harrowCodes p l r).length) :
    (harrowCodes p l r)[j] = harrowCell p l r (j + 1) := by
  simp only [harrowCodes, List.getElem_map, List.getElem_range]

/-- Settles O45: the cells from the left, or their reverse. -/
theorem harrowRefreshDrawsBothLevels : Obligations.HarrowRefreshDrawsBothLevels := by
  intro s hm ha style
  have drawn : exec .rndRef s = .next (s.emit (harrowFieldOps s)) := by
    rw [exec_rndRef_active hm ha, refresh_vuHarrow style]
  simp only [← harrowCell_eq]
  cases direction : s.params.harrowDir with
  | ltr =>
    rw [harrowFieldOps, direction] at drawn
    exact ⟨_, drawn, harrowCodes_length _ _ _, fun _ h => getElem_harrowCodes _ _ _ h⟩
  | rtl =>
    rw [harrowFieldOps, direction] at drawn
    refine ⟨_, drawn, List.length_reverse.trans (harrowCodes_length _ _ _), fun j h => ?_⟩
    have inside : j < 10 := by simpa using h
    have fromRight : 10 - 1 - j + 1 = 10 - j := by omega
    simp only [List.getElem_reverse, getElem_harrowCodes, harrowCodes_length, fromRight]

end Sys2Proof.Machine
end

section
/-! PROOFS. The debounce edge detector (spec/44_debounce.md): one call for a button, as R701 and R705 say it, and RESULT
bit by bit. -/

namespace Sys2Proof.Machine

/-- A call is a bypass (R705) or one of the three ends of debounce1 (R701). -/
theorem Debouncer.debounceCall_call (d : Debouncer) (bypass lg : Bool) (now : Word32) :
    DebounceCall d (d.call bypass lg now).1 bypass lg now (d.call bypass lg now).2.out := by
  cases bypass with
  | true => exact ⟨fun _ => ⟨rfl, rfl⟩, nofun, nofun⟩
  | false =>
    obtain ⟨same, after⟩ | ⟨differs, elapsed, after⟩ | ⟨differs, running, after⟩ := d.step_cases lg now
    · refine ⟨nofun, fun _ _ => ?_, fun _ differs => absurd same differs⟩
      simp [Debouncer.call, after]
    · refine ⟨nofun, fun _ same => absurd same differs, fun _ _ => ?_⟩
      rw [if_pos elapsed]
      simp [Debouncer.call, after]
    · refine ⟨nofun, fun _ same => absurd same differs, fun _ _ => ?_⟩
      rw [if_neg running]
      simp [Debouncer.call, after]

/-! The packed result (R704). -/

/-- The nine bits three reports are packed into, the lowest first. -/
def reportBits (report : Button → ButtonReport) : List Bool :=
  [.up, .down, .select].map (fun b => (report b).out) ++ [.up, .down, .select].map (fun b => (report b).press) ++
    [.up, .down, .select].map fun b => (report b).release

theorem reportBits_getD (report : Button → ButtonReport) (b : Button) :
    (reportBits report).getD b.number false = (report b).out ∧
      (reportBits report).getD (3 + b.number) false = (report b).press ∧
      (reportBits report).getD (6 + b.number) false = (report b).release := by
  cases b <;> exact ⟨rfl, rfl, rfl⟩

theorem getLsbD_debounceResult (report : Button → ButtonReport) (k : Nat) :
    (debounceResult (report .up) (report .down) (report .select)).getLsbD k = (reportBits report).getD k false := by
  calc (debounceResult (report .up) (report .down) (report .select)).getLsbD k
    _ = (BitVec.ofBoolListLE (reportBits report ++ List.replicate 23 false)).getLsbD k := rfl
    _ = (reportBits report ++ List.replicate 23 false).getD k false := BitVec.getLsbD_ofBoolListLE
    _ = (reportBits report).getD k false := ?_
  obtain inside | above := Nat.lt_or_ge k (reportBits report).length
  · exact List.getD_append _ _ _ _ inside
  · rw [List.getD_append_right _ _ _ _ above, List.getD_eq_default _ _ above, List.getD_eq_getElem?_getD,
      List.getElem?_getD_replicate_default_eq]

/-- RESULT after the three calls, by the report of each (R700). -/
theorem stepButtons_result_getLsbD (bypass pins : BitVec 3) (s : State) (k : Nat) :
    (stepButtons bypass pins s).result.getLsbD k =
      (reportBits fun b => (buttonCall s.buttons bypass pins s.arg b).2).getD k false :=
  getLsbD_debounceResult (fun b => (buttonCall s.buttons bypass pins s.arg b).2) k

/-- Settles O47: in RUN, with no check of BUSY, DBN.STEP is `stepButtons`, with one `buttonCall` for each button. -/
theorem dbnStepDebouncesEachButton : Obligations.DbnStepDebouncesEachButton := by
  refine ⟨fun w hw => decode_of_reservedAbove (by simp only [decode, hw]), fun s bypass pins hm =>
    ⟨stepButtons bypass pins s, congrArg _ (whenRunning_run hm _), rfl, fun b => ?_, fun k hk => ?_⟩⟩
  · obtain ⟨out, press, release⟩ := reportBits_getD (fun b => (buttonCall s.buttons bypass pins s.arg b).2) b
    simp only [stepButtons_get, stepButtons_result_getLsbD, out, press, release]
    exact ⟨_, (s.buttons.get b).debounceCall_call _ _ _, rfl, rfl, rfl⟩
  · rw [stepButtons_result_getLsbD]
    exact List.getD_eq_default _ _ hk

end Sys2Proof.Machine
end

section
/-! PROOFS. The system commands (spec/45_system.md): the status word field by field, the words of format S, the reset,
and the fatal halt. -/

namespace Sys2Proof.Machine

/-- Settles O18: NOP is the one word of its opcode, and its effect is the identity. -/
theorem nopChangesNothing : Obligations.NopChangesNothing :=
  ⟨onlyWord_of_reserved (fun w hw => by simp only [decode, hw]) rfl rfl, fun _ => rfl⟩

/-! The status word (spec/10_state.md R145). -/

/-- A field starts where the fields below it end: it is reached by passing them one by one. -/
theorem State.statusFields_statusWord (s : State) : s.StatusFields s.statusWord := by
  have select : s.buttons.select = s.buttons.get .select := rfl
  have down : s.buttons.down = s.buttons.get .down := rfl
  have up : s.buttons.up = s.buttons.get .up := rfl
  unfold State.statusWord
  rw [select, down, up]
  constructor <;>
    simp only [BitVec.extractLsb'_append_eq_of_le, BitVec.extractLsb'_append_eq_right, BitVec.extractLsb'_eq_self,
      Nat.reduceLeDiff, Nat.reduceSub]

/-- Settles O22: RD.STAT is the one word of its opcode, and in every mode it writes the status word to RESULT. -/
theorem rdStatReadsStatusFields : Obligations.RdStatReadsStatusFields :=
  ⟨onlyWord_of_reserved (fun w hw => by simp only [decode, hw]) rfl rfl,
    fun s => ⟨s.setResult s.statusWord, rfl, rfl, s.statusFields_statusWord⟩⟩

/-! The words of format S (spec/30_encoding.md R310). -/

/-- OP, the reserved bits and sub are the whole word. -/
theorem CmdWord.toNat_eq_system_fields (w : CmdWord) :
    w.toNat = w.field 15 12 * 2 ^ 12 + w.field 11 4 * 2 ^ 4 + w.field 3 0 := by
  have := w.isLt
  simp only [CmdWord.field]
  omega

/-- With OP = 0xF and the reserved bits 0, the word is its sub. -/
theorem CmdWord.eq_of_system_sub {w w0 : CmdWord} (hw : w.field 15 12 = 0xF) (reserved : w.field 11 4 = 0)
    (sub : 0xF000 + w.field 3 0 = w0.toNat) : w = w0 := by
  apply BitVec.eq_of_toNat_eq
  rw [CmdWord.toNat_eq_system_fields w, hw, reserved]
  exact sub

/-- The legal words of opcode 0xF are those of SYS.RESET and SYS.HALT. -/
theorem decode_system_words {w : CmdWord} (hw : w.field 15 12 = 0xF) :
    if w = 0xF000 then decode w = .ok .sysReset
    else if w = 0xF001 then decode w = .ok .sysHalt else ∃ e, decode w = .error e := by
  split
  · next reset => subst reset; rfl
  next notReset =>
  split
  · next halt => subst halt; rfl
  next notHalt =>
  have hd : decode w = decodeSystem w := by simp only [decode, hw]
  rw [hd, decodeSystem]
  split
  · next reserved =>
    split
    · next sub => exact absurd (CmdWord.eq_of_system_sub hw reserved (by rw [sub]; rfl)) notReset
    · next sub => exact absurd (CmdWord.eq_of_system_sub hw reserved (by rw [sub]; rfl)) notHalt
    · exact ⟨_, rfl⟩
  · exact ⟨_, rfl⟩

/-- A check of reserved bits lets its own command pass and no other. -/
theorem eq_of_reservedAbove_ok {w : CmdWord} {lo : Nat} {i j : Instr} (h : reservedAbove w lo i = .ok j) : i = j := by
  unfold reservedAbove at h
  split at h
  · exact Except.ok.inj h
  · cases h

/-- Every opcode but 0xF has a command of its own, which is not SYS.HALT. -/
theorem opcode_of_decode_sysHalt {w : CmdWord} (h : decode w = .ok .sysHalt) : w.field 15 12 = 0xF := by
  have opcode : w.field 15 12 < 16 := Nat.mod_lt _ (by decide)
  unfold decode at h
  split at h
  case h_13 | h_15 => cases h
  case h_16 => simp only [imp_false] at *; omega
  all_goals cases eq_of_reservedAbove_ok h

theorem eq_of_decode_sysHalt {w : CmdWord} (h : decode w = .ok .sysHalt) : w = 0xF001 := by
  have words := decode_system_words (opcode_of_decode_sysHalt h)
  rw [h] at words
  split_ifs at words with reset halt
  · cases words
  · exact halt
  · obtain ⟨_, error⟩ := words
    cases error

/-! The reset (spec/10_state.md R147, spec/70_reset_and_hazards.md R901, R902). -/

theorem Memory.readCap_reset (p : Params) (k : Nat) : (Memory.reset p).readCap k = 0 :=
  List.getD_eq_getElem?_getD.trans (List.getElem?_getD_replicate_default_eq _ _ _)

theorem Memory.readSpec_reset (p : Params) (k : Nat) : (Memory.reset p).readSpec k = 0 :=
  List.getD_eq_getElem?_getD.trans (List.getElem?_getD_replicate_default_eq _ _ _)

/-- ALPHA_M fits its register. -/
theorem toNat_ofNat_alpha (p : Params) (c : Channel) :
    (BitVec.ofNat 10 (p.alpha c)).toNat = 1000 * p.weight.get c / (p.weight.get c + 1) := by
  have := alpha_lt p c
  rw [BitVec.toNat_ofNat, Nat.mod_eq_of_lt (by omega)]
  rfl

/-- The reset values are those of the table, whatever the fields hold that the table leaves out. -/
theorem atReset_resetWith (p : Params) (cmd : CmdWord) (arg : Word32) (dout : List DisplayOp)
    (endedRuns : List FaultOutcome) (pending : List Input) :
    State.AtReset { State.resetWith p with
      cmd := cmd, arg := arg, dout := dout, endedRuns := endedRuns, pending := pending } where
  result := rfl
  mode := rfl
  fcode := rfl
  fcmd := rfl
  capbuf := ⟨List.length_replicate, Memory.readCap_reset p⟩
  busy := rfl
  idx := rfl
  ch := rfl
  spec := ⟨List.length_replicate, Memory.readSpec_reset p⟩
  level c := by cases c <;> rfl
  lpf c := by cases c <;> rfl
  alphaM c := by cases c <;> exact toNat_ofNat_alpha p _
  meter := rfl
  active := rfl
  vph := rfl
  vcnt := rfl
  stable b := by cases b <;> rfl
  armed b := by cases b <;> rfl
  ts b := by cases b <;> rfl
  toRise b := by cases b <;> rfl
  toFall b := by cases b <;> rfl
  lastOut b := by cases b <;> rfl

theorem State.atReset_performReset (s : State) : s.performReset.AtReset := atReset_resetWith _ _ _ _ _ _

theorem exec_sysReset {s : State} (h : s.mode ≠ .halted) : exec .sysReset s = .next s.performReset :=
  congrArg _ (if_neg h)

theorem exec_sysReset_halted {s : State} (h : s.mode = .halted) : exec .sysReset s = .next s :=
  congrArg _ (if_pos h)

/-- Settles O23: outside HALTED, SYS.RESET is the reset action. -/
theorem sysResetResetsUnlessHalted : Obligations.SysResetResetsUnlessHalted :=
  ⟨⟨rfl, fun _ => decode_system_words⟩, fun s =>
    ⟨fun h => ⟨s.performReset, exec_sysReset h, s.atReset_performReset, rfl, rfl⟩, exec_sysReset_halted⟩⟩

/-! The fatal halt (spec/60_exceptions.md R810). -/

/-- In RUN, SYS.HALT enters the fatal halt with the word in execution as FCMD. -/
theorem exec_sysHalt_running {s : State} (hm : s.mode = .run) : exec .sysHalt s = .next { s with
    mode := .halted, fcode := .fatalHalt, fcmd := s.cmd,
    dout := s.dout ++ [.clear, .cursor 0 0] ++ s.params.diagText.map .char } := by
  rw [List.append_assoc]
  exact congrArg _ (whenRunning_run hm _)

/-- Settles O24: in RUN the fatal halt is entered, for 0xF001 with that word as FCMD; in no other mode is it. -/
theorem sysHaltEntersFatalHalt : Obligations.SysHaltEntersFatalHalt := by
  refine ⟨⟨rfl, fun _ => eq_of_decode_sysHalt⟩, fun s => ⟨fun hm hcmd => ?_, fun hm => ?_, fun hm => ?_⟩⟩
  · rw [← hcmd]
    exact exec_sysHalt_running hm
  · exact ⟨_, exec_sysHalt_running hm, rfl⟩
  · exact congrArg _ (whenRunning_stopped hm _)

end Sys2Proof.Machine
end

section
/-! PROOFS. Faults and modes (spec/60_exceptions.md): the two checks of R806 that a legal command can fail, BUSY_VIOLATION
(R805) and NOT_ACTIVE (R807), and the halt by a spurious interrupt (R812). -/

namespace Sys2Proof.Machine

/-! The spurious-interrupt event (R812). -/

theorem spuriousEvent_halted {s : State} (h : s.mode = .halted) : spuriousEvent s = s := if_pos h

theorem spuriousEvent_notHalted {s : State} (h : s.mode ≠ .halted) :
    spuriousEvent s = s.raiseFatal .fatalSpurious 0 := if_neg h

/-- Settles O9: in HALTED the event is skipped; in any other mode it enters the fatal halt, with the diagnostic of R810. -/
theorem spuriousInterruptHalts : Obligations.SpuriousInterruptHalts := by
  intro s rest hp
  rw [step_move hp, List.append_assoc]
  exact ⟨fun hm => congrArg _ (spuriousEvent_halted (s := { s with pending := rest }) hm),
    fun hm => congrArg _ (spuriousEvent_notHalted (s := { s with pending := rest }) hm)⟩

/-! RND.REF and ACTIVE (R807). -/

theorem exec_rndRef_inactive {s : State} (hm : s.mode = .run) (ha : s.active = false) :
    exec .rndRef s = .next (s.raiseFault .notActive) :=
  congrArg _ ((whenRunning_run hm _).trans (whenActive_inactive ha _))

/-- Settles O40: RND.REF is the one word of its opcode, and the check of ACTIVE comes before any drawing. -/
theorem refreshBeforeActivationFaults : Obligations.RefreshBeforeActivationFaults :=
  ⟨onlyWord_of_reserved (fun w hw => by simp only [decode, hw]) rfl rfl, fun _ => exec_rndRef_inactive⟩

/-! The commands while BUSY = 1 (R805). -/

/-- The check of BUSY comes before the effect of each command that uses the capture buffer. -/
theorem exec_usesCapture_busy {i : Instr} (hi : usesCapture i = true) {s : State} (hm : s.mode = .run)
    (hb : s.busy = true) : exec i s = .next (s.raiseFault .busyViolation) := by
  cases i with
  | smpStart | smpNext | lvlRms | lvlUpdate | fftRun | rdCap _ => exact congrArg _ (captureGate_busy hm hb _)
  | nop | lvlFilt _ | dbMap _ | rndAct _ | rndRef | dbnStep _ _ | rdStat | rdSpec _ | rdLvl _ _ | sysReset | sysHalt =>
    cases hi

/-- A refresh keeps MODE in every style. -/
theorem refresh_mode (s : State) : (refresh s).mode = s.mode := by
  cases style : s.meter with
  | fftVertical => rw [refresh_fftVertical style, State.emit_mode]
  | vuLines => rw [refresh_vuLines style, refreshVul_frame s]
  | vuHarrow => rw [refresh_vuHarrow style, State.emit_mode]

/-- An effect that keeps MODE keeps it behind the mode gate. -/
theorem whenRunning_mode {s : State} {act : State → State} (h : (act s).mode = s.mode) :
    (whenRunning s act).mode = s.mode := by
  unfold whenRunning
  split
  · exact h
  · rfl

/-- The mode in which a command that does not use the capture buffer leaves a running block: SYS.HALT halts it, RND.REF
before an activation faults, and every other command leaves it in RUN (a reset included). -/
def modeAfter (s : State) : Instr → Mode
  | .sysHalt => .halted
  | .rndRef => if s.active then .run else .faulted
  | _ => .run

theorem exec_mode_of_not_usesCapture {i : Instr} (hi : usesCapture i = false) {s : State} (hm : s.mode = .run) :
    ∃ t, exec i s = .next t ∧ t.mode = modeAfter s i := by
  cases i with
  | smpStart | smpNext | lvlRms | lvlUpdate | fftRun | rdCap _ => cases hi
  | nop | rdStat => exact ⟨_, rfl, hm⟩
  | lvlFilt _ | dbMap _ | rndAct _ | dbnStep _ _ | rdSpec _ | rdLvl _ _ =>
    exact ⟨_, rfl, (whenRunning_mode rfl).trans hm⟩
  | rndRef =>
    cases ha : s.active with
    | true => exact ⟨_, exec_rndRef_active hm ha, by rw [refresh_mode, hm, modeAfter, ha]; rfl⟩
    | false => exact ⟨_, exec_rndRef_inactive hm ha, by rw [modeAfter, ha]; rfl⟩
  | sysReset => exact ⟨_, exec_sysReset (by rw [hm]; decide), rfl⟩
  | sysHalt => exact ⟨_, exec_sysHalt_running hm, rfl⟩

theorem modeAfter_faulted {s : State} {i : Instr} (h : modeAfter s i = .faulted) : i = .rndRef ∧ s.active = false := by
  unfold modeAfter at h
  split at h
  · cases h
  · split at h
    · cases h
    · next inactive => exact ⟨rfl, Bool.eq_false_of_not_eq_true inactive⟩
  · cases h

/-- Settles O14: the six commands stop at the check of BUSY; of the others RND.REF alone has a check, that of ACTIVE. -/
theorem captureCommandsFaultWhileBusy : Obligations.CaptureCommandsFaultWhileBusy := by
  refine fun i s hm hb => ⟨fun hi => exec_usesCapture_busy hi hm hb, fun hi => ?_⟩
  obtain ⟨t, ht, mode⟩ := exec_mode_of_not_usesCapture hi hm
  exact ⟨t, ht, fun faulted => modeAfter_faulted (mode.symm.trans faulted)⟩

end Sys2Proof.Machine
end

section
/-! PROOFS. Reset (spec/70_reset_and_hazards.md R901, R902): RST_N and SYS.RESET are one action. -/

namespace Sys2Proof.Machine

/-- RST_N has no mode gate: as the next move it is the reset action in every mode. -/
theorem step_resetAsserted {s : State} {rest : List Input} (hp : s.pending = .resetAsserted :: rest) :
    step s = .next { s with pending := rest }.performReset := step_move hp

/-- Settles O10: both ways lead to the reset action, which sets the table of R147 and keeps DOUT, the parameters and the
schedule. -/
theorem resetSetsEveryRegister : Obligations.ResetSetsEveryRegister :=
  ⟨fun s rest hp => ⟨{ s with pending := rest }.performReset, step_resetAsserted hp, State.atReset_performReset _,
      State.performReset_dout _, State.performReset_params _, State.performReset_pending _⟩,
    fun s notHalted => ⟨s.performReset, exec_sysReset notHalted, s.atReset_performReset,
      s.performReset_dout, s.performReset_params, s.performReset_pending⟩⟩

end Sys2Proof.Machine
end

section
/-! PROOFS. Encoding (spec/30_encoding.md): decoding and encoding are inverse on the legal words, and which words are
legal. -/

namespace Sys2Proof

/-! The fields of a word (R302-R310). -/

theorem CmdWord.field_lt (w : CmdWord) (hi lo : Nat) : w.field hi lo < 2 ^ (hi + 1 - lo) :=
  Nat.mod_lt _ (Nat.two_pow_pos _)

theorem Channel.bit_ofBit {b : Nat} (h : b < 2) : (Channel.ofBit b).bit = b := by
  interval_cases b <;> rfl

theorem LevelSel.bit_ofBit {b : Nat} (h : b < 2) : (LevelSel.ofBit b).bit = b := by
  interval_cases b <;> rfl

theorem reservedAbove_ok_iff {w : CmdWord} {lo : Nat} {i j : Instr} :
    reservedAbove w lo i = .ok j ↔ w.field 11 lo = 0 ∧ i = j := by
  unfold reservedAbove
  split
  · next zero => simp [zero]
  · next other => simp [other]

/-- The fields of a word made of an opcode and one operand of hi + 1 bits. -/
theorem CmdWord.fields_of_toNat {w : CmdWord} {op operand : Nat} (hi lo : Nat) (h : w.toNat = op * 2 ^ 12 + operand)
    (small : operand < 2 ^ lo) (hlo : lo = hi + 1) (hhi : hi ≤ 11) :
    w.field 15 12 = op ∧ w.field 11 lo = 0 ∧ w.field hi 0 = operand := by
  have whole := w.isLt
  subst hlo
  simp only [CmdWord.field]
  interval_cases hi <;> omega

/-- Settles O1: the operands of a well-formed command are read back from the fields of its word. -/
theorem decodeInvertsEncode : Obligations.DecodeInvertsEncode := by
  intro i hi
  cases i with
  | nop | smpStart | smpNext | lvlRms | lvlUpdate | fftRun | rndRef | rdStat | sysReset | sysHalt => rfl
  | lvlFilt c => cases c <;> rfl
  | rdLvl f c => cases f <;> cases c <;> rfl
  | dbMap cells =>
    obtain ⟨opcode, reserved, operand⟩ := CmdWord.fields_of_toNat (op := 0x7) 5 6 (Laws.EncodeKeepsValue.dbMap cells hi)
      (of_decide_eq_true hi) rfl (by decide)
    simp only [decode, opcode, operand, reservedAbove, reserved, if_true]
  | rndAct t =>
    obtain ⟨opcode, reserved, operand⟩ := CmdWord.fields_of_toNat (op := 0x8) 3 4 (Laws.EncodeKeepsValue.rndAct t hi)
      (of_decide_eq_true hi) rfl (by decide)
    simp only [decode, opcode, operand, reservedAbove, reserved, if_true]
  | rdSpec k =>
    obtain ⟨opcode, -, operand⟩ := CmdWord.fields_of_toNat (op := 0xC) 11 12 (Laws.EncodeKeepsValue.rdSpec k hi)
      (of_decide_eq_true hi) rfl (by decide)
    simp only [decode, opcode, operand]
  | rdCap k =>
    obtain ⟨opcode, -, operand⟩ := CmdWord.fields_of_toNat (op := 0xE) 11 12 (Laws.EncodeKeepsValue.rdCap k hi)
      (of_decide_eq_true hi) rfl (by decide)
    simp only [decode, opcode, operand]
  | dbnStep bypass pins =>
    have value := Laws.EncodeKeepsValue.dbnStep bypass pins hi
    have := bypass.isLt
    have := pins.isLt
    obtain ⟨opcode, reserved, high, low⟩ : (encode (.dbnStep bypass pins)).field 15 12 = 0xA ∧
        (encode (.dbnStep bypass pins)).field 11 6 = 0 ∧
        (encode (.dbnStep bypass pins)).field 5 3 = bypass.toNat ∧
        (encode (.dbnStep bypass pins)).field 2 0 = pins.toNat := by
      simp only [CmdWord.field, value, Instr.wordValue]; omega
    simp only [decode, opcode, high, low, reservedAbove, reserved, if_true, BitVec.ofNat_toNat, BitVec.setWidth_eq]

/-- The words of format S that decode. -/
theorem decodeSystem_ok {w : CmdWord} {i : Instr} (h : decodeSystem w = .ok i) :
    w.field 11 4 = 0 ∧ (w.field 3 0 = 0 ∧ i = .sysReset ∨ w.field 3 0 = 1 ∧ i = .sysHalt) := by
  unfold decodeSystem at h
  split at h
  · next reserved =>
    split at h
    · next sub => exact ⟨reserved, .inl ⟨sub, (Except.ok.inj h).symm⟩⟩
    · next sub => exact ⟨reserved, .inr ⟨sub, (Except.ok.inj h).symm⟩⟩
    · cases h
  · cases h

/-- A decoded command is well-formed, and its format puts the word together again. -/
theorem wordValue_of_decode {w : CmdWord} {i : Instr} (h : decode w = .ok i) :
    i.wellFormed = true ∧ i.wordValue = w.toNat := by
  have whole := w.isLt
  have opcode : w.field 15 12 < 2 ^ 4 := w.field_lt 15 12
  have bit0 := Channel.bit_ofBit (w.field_lt 0 0)
  have bit1 := LevelSel.bit_ofBit (w.field_lt 1 1)
  unfold decode at h
  split at h
  case h_13 | h_15 =>
    cases h
    simp only [Instr.wellFormed, Instr.wordValue, decide_eq_true_eq]
    simp only [CmdWord.field] at *
    omega
  case h_16 =>
    have system : w.field 15 12 = 0xF := by simp only [imp_false] at *; omega
    obtain ⟨reserved, ⟨sub, rfl⟩ | ⟨sub, rfl⟩⟩ := decodeSystem_ok h <;>
    · simp only [Instr.wellFormed, Instr.wordValue, true_and]
      simp only [CmdWord.field] at system reserved sub
      clear * - whole system reserved sub
      omega
  all_goals
    obtain ⟨reserved, rfl⟩ := reservedAbove_ok_iff.mp h
    simp only [Instr.wellFormed, Instr.wordValue, decide_eq_true_eq, BitVec.toNat_ofNat, bit0, bit1, true_and]
    simp only [CmdWord.field] at *
    omega

/-- Settles O2: the word of a command is its value, and decoding keeps the value. -/
theorem encodeInvertsDecode : Obligations.EncodeInvertsDecode := by
  intro w i h
  obtain ⟨wf, value⟩ := wordValue_of_decode h
  refine ⟨wf, ?_⟩
  rw [encode, value, BitVec.ofNat_toNat, BitVec.setWidth_eq]

/-! Which words are legal (R312, R313). -/

/-- The lowest bit of CMD[11:0] that an opcode reserves: its operand bits, or sub, stand below it (R303-R310). -/
def operandBits : Nat → Nat
  | 0x4 => 1
  | 0x7 => 6
  | 0x8 => 4
  | 0xA => 6
  | 0xC => 12
  | 0xD => 2
  | 0xE => 12
  | 0xF => 4
  | _ => 0

/-- The reserved bits of the word's opcode are 0, and with OP = 0xF sub is assigned (R313). -/
def CmdWord.Legal (w : CmdWord) : Prop :=
  w.field 11 (operandBits (w.field 15 12)) = 0 ∧ (w.field 15 12 = 0xF → w.field 3 0 < 2)

theorem exists_reservedAbove_ok_iff {w : CmdWord} {lo : Nat} {i : Instr} :
    (∃ j, reservedAbove w lo i = .ok j) ↔ w.field 11 lo = 0 := by
  simp only [reservedAbove_ok_iff, exists_and_left, exists_eq', and_true]

theorem exists_decodeSystem_ok_iff {w : CmdWord} :
    (∃ i, decodeSystem w = .ok i) ↔ w.field 11 4 = 0 ∧ w.field 3 0 < 2 := by
  constructor
  · rintro ⟨i, h⟩
    obtain ⟨reserved, sub⟩ := decodeSystem_ok h
    exact ⟨reserved, by omega⟩
  · rintro ⟨reserved, sub⟩
    rw [decodeSystem, if_pos reserved]
    obtain zero | one : w.field 3 0 = 0 ∨ w.field 3 0 = 1 := by omega
    · exact ⟨.sysReset, by rw [zero]; rfl⟩
    · exact ⟨.sysHalt, by rw [one]; rfl⟩

theorem decode_ok_iff_legal (w : CmdWord) : (∃ i, decode w = .ok i) ↔ w.Legal := by
  have opcode : w.field 15 12 < 16 := w.field_lt 15 12
  unfold decode CmdWord.Legal
  split
  case h_13 op | h_15 op =>
    have none : w.field 11 12 = 0 := Nat.mod_one _
    simp [op, operandBits, none]
  case h_16 =>
    have system : w.field 15 12 = 0xF := by simp only [imp_false] at *; omega
    simp [system, operandBits, exists_decodeSystem_ok_iff]
  all_goals next op => simp [op, operandBits, exists_reservedAbove_ok_iff]

theorem decode_error_iff_not_legal (w : CmdWord) : (∃ e, decode w = .error e) ↔ ¬ w.Legal := by
  rw [← decode_ok_iff_legal]
  cases decode w <;> simp

/-- A mask of n bits from bit lo on cuts out that field. -/
theorem toNat_and_mask {w mask : CmdWord} {lo n : Nat} (h : mask.toNat = (2 ^ n - 1) * 2 ^ lo) :
    (w &&& mask).toNat = w.toNat / 2 ^ lo % 2 ^ n * 2 ^ lo := by
  rw [BitVec.toNat_and, h]
  apply Nat.eq_of_testBit_eq
  intro i
  simp only [Nat.testBit_and, Nat.testBit_mul_two_pow, Nat.testBit_mod_two_pow, Nat.testBit_div_two_pow,
    Nat.testBit_two_pow_sub_one]
  by_cases above : lo ≤ i
  · simp [above, Bool.and_comm]
  · simp [above]

/-- The mask of an opcode cuts out its reserved bits. -/
theorem and_reservedMask_eq_zero_iff (w : CmdWord) (op : Nat) :
    w &&& reservedMask op = 0 ↔ w.field 11 (operandBits op) = 0 := by
  have mask : (reservedMask op).toNat = (2 ^ (12 - operandBits op) - 1) * 2 ^ operandBits op := by
    unfold reservedMask
    split <;> simp [operandBits, *]
  rw [← BitVec.toNat_inj, toNat_and_mask mask]
  simp [CmdWord.field]

/-- A row of the opcode map with its operand bits below lo fixes OP and the bits from lo up to CMD[11]. -/
theorem and_eq_iff_fields {mask pattern : CmdWord} (lo : Nat) (hlo : lo ≤ 12)
    (hm : mask.toNat = (2 ^ (16 - lo) - 1) * 2 ^ lo) (hp : pattern.toNat % 2 ^ lo = 0) (w : CmdWord) :
    w &&& mask = pattern ↔ w.field 15 12 = pattern.field 15 12 ∧ w.field 11 lo = pattern.field 11 lo := by
  have := w.isLt
  have := pattern.isLt
  rw [← BitVec.toNat_inj, toNat_and_mask hm]
  simp only [CmdWord.field]
  interval_cases lo <;> omega

/-- OP of a row, its lowest fixed bit, and the value it fixes from there up to CMD[11]. -/
def OpcodeRow.fixed (r : OpcodeRow) : Nat × Nat × Nat :=
  let lo := if r.mask = 0xFFFF then 0 else operandBits (r.pattern.field 15 12)
  (r.pattern.field 15 12, lo, r.pattern.field 11 lo)

theorem matches_iff_fixed {r : OpcodeRow} (hr : r ∈ opcodeMap) (w : CmdWord) :
    w &&& r.mask = r.pattern ↔ w.field 15 12 = r.fixed.1 ∧ w.field 11 r.fixed.2.1 = r.fixed.2.2 := by
  have form : ∀ r ∈ opcodeMap, r.fixed.2.1 ≤ 12 ∧ r.mask.toNat = (2 ^ (16 - r.fixed.2.1) - 1) * 2 ^ r.fixed.2.1 ∧
      r.pattern.toNat % 2 ^ r.fixed.2.1 = 0 := by decide
  obtain ⟨lo, mask, pattern⟩ := form r hr
  exact and_eq_iff_fields _ lo mask pattern w

theorem exists_row_iff_legal (w : CmdWord) : (∃ r ∈ opcodeMap, w &&& r.mask = r.pattern) ↔ w.Legal := by
  have opcode : w.field 15 12 < 16 := w.field_lt 15 12
  have system : w.field 11 4 = 0 ∧ w.field 3 0 ≤ 1 ↔ w.field 11 0 = 0 ∨ w.field 11 0 = 1 := by
    simp only [CmdWord.field]; omega
  have none : w.field 11 12 = 0 := Nat.mod_one _
  have rows : opcodeMap.map OpcodeRow.fixed =
      [(0, 0, 0), (1, 0, 0), (2, 0, 0), (3, 0, 0), (4, 1, 0), (5, 0, 0), (6, 0, 0), (7, 6, 0), (8, 4, 0), (9, 0, 0),
        (10, 6, 0), (11, 0, 0), (12, 12, 0), (13, 2, 0), (14, 12, 0), (15, 0, 0), (15, 0, 1)] := by decide
  calc (∃ r ∈ opcodeMap, w &&& r.mask = r.pattern)
    _ ↔ ∃ f ∈ opcodeMap.map OpcodeRow.fixed, w.field 15 12 = f.1 ∧ w.field 11 f.2.1 = f.2.2 := by
      simp only [List.mem_map, exists_exists_and_eq_and]
      exact exists_congr fun r => and_congr_right fun hr => matches_iff_fixed hr w
    _ ↔ w.Legal := by
      rw [rows, CmdWord.Legal]
      generalize w.field 15 12 = op at *
      interval_cases op <;> simp [operandBits, system, none]

/-- Two rows of the opcode map disagree on a bit that both fix. -/
theorem opcodeMap_disjoint :
    opcodeMap.Pairwise fun r r' => r.pattern &&& r'.mask ≠ r'.pattern &&& r.mask := by decide

/-- No word matches two rows. -/
theorem opcodeRow_unique {w : CmdWord} {r r' : OpcodeRow} (hr : r ∈ opcodeMap) (hr' : r' ∈ opcodeMap)
    (h : w &&& r.mask = r.pattern) (h' : w &&& r'.mask = r'.pattern) : r = r' := by
  have symmetric : Std.Symm fun r r' : OpcodeRow => r.pattern &&& r'.mask ≠ r'.pattern &&& r.mask :=
    ⟨fun _ _ => Ne.symm⟩
  by_contra other
  refine opcodeMap_disjoint.forall hr hr' other ?_
  calc r.pattern &&& r'.mask
    _ = w &&& r'.mask &&& r.mask := by rw [← h, BitVec.and_assoc, BitVec.and_assoc, BitVec.and_comm r.mask]
    _ = r'.pattern &&& r.mask := by rw [h']

/-- A word is legal exactly where it matches one row of the opcode map. -/
theorem legal_iff_existsUnique_row (w : CmdWord) :
    w.Legal ↔ ∃! r, r ∈ opcodeMap ∧ w &&& r.mask = r.pattern := by
  rw [← exists_row_iff_legal]
  refine ⟨fun ⟨r, hr, h⟩ => ⟨r, ⟨hr, h⟩, fun r' ⟨hr', h'⟩ => opcodeRow_unique hr' hr h' h⟩, ExistsUnique.exists⟩

theorem legal_iff_reservedMask (w : CmdWord) :
    ¬ w.Legal ↔ w &&& reservedMask (w.field 15 12) ≠ 0 ∨ (w.field 15 12 = 0xF ∧ 2 ≤ w.field 3 0) := by
  rw [Ne, and_reservedMask_eq_zero_iff, CmdWord.Legal]
  omega

/-- Settles O4: each word is decoded. -/
theorem writtenWordsDecode : Obligations.WrittenWordsDecode := by
  unfold Obligations.WrittenWordsDecode
  decide

end Sys2Proof
end

section
/-! PROOFS. What a transaction and a step can do, said once: every check of spec/60_exceptions.md R806 with the effect
behind it, and every move of an agent (spec/10_state.md R100). -/

namespace Sys2Proof.Machine

/-- The value a readback command writes to RESULT (spec/20_memory.md R206). -/
def readout (s : State) : Instr → Word32
  | .rdStat => s.statusWord
  | .rdSpec k => specReadout s k
  | .rdLvl .raw c => s.level.get c
  | .rdLvl .filtered c => s.lpf.get c
  | .rdCap k => capReadout s k
  | .dbMap cells => .ofNat 32 (dbmap s.params s.argNat cells)
  | _ => 0

/-- `CommandEffect s d t`: from the state s, with the transaction in the port registers, a word that decodes as d leads
to t. The first four constructors are the checks of spec/60_exceptions.md R806 that stop a word; the others are the
effects behind the checks, with the checks they have passed. -/
inductive CommandEffect (s : State) : Except DecodeError Instr → State → Prop
  | skipped {d : Except DecodeError Instr} (stopped : s.mode ≠ .run) (notStatus : d ≠ .ok .rdStat)
      (halted : d = .ok .sysReset → s.mode = .halted) : CommandEffect s d s
  | illegal {e : DecodeError} (running : s.mode = .run) : CommandEffect s (.error e) (s.raiseFault .illegalCmd)
  | busyViolation {i : Instr} (running : s.mode = .run) (capture : usesCapture i = true) (busy : s.busy = true) :
      CommandEffect s (.ok i) (s.raiseFault .busyViolation)
  | notActive (running : s.mode = .run) (inactive : s.active = false) :
      CommandEffect s (.ok .rndRef) (s.raiseFault .notActive)
  | nop (running : s.mode = .run) : CommandEffect s (.ok .nop) s
  | readback {i : Instr} (reads : isReadback i = true) (gate : s.mode = .run ∨ i = .rdStat)
      (idle : usesCapture i = true → s.busy = false) : CommandEffect s (.ok i) (s.setResult (readout s i))
  | smpStart (running : s.mode = .run) (idle : s.busy = false) : CommandEffect s (.ok .smpStart) s.armCapture
  | smpNext (running : s.mode = .run) (idle : s.busy = false) :
      CommandEffect s (.ok .smpNext) s.toggleChannel.armCapture
  | lvlRms (running : s.mode = .run) (idle : s.busy = false) : CommandEffect s (.ok .lvlRms) (measureLevel s)
  | lvlFilt {c : Channel} (running : s.mode = .run) : CommandEffect s (.ok (.lvlFilt c)) (filterChannel c s.argNat s)
  | lvlUpdate (running : s.mode = .run) (idle : s.busy = false) :
      CommandEffect s (.ok .lvlUpdate) (filterChannel s.ch (rms s) (measureLevel s))
  | fftRun (running : s.mode = .run) (idle : s.busy = false) :
      CommandEffect s (.ok .fftRun) (s.setSpec (spectrumBins s.params s.captured))
  | rndAct {n : Nat} (running : s.mode = .run) : CommandEffect s (.ok (.rndAct n)) (activate n s)
  | fieldDrawn {codes : List CharCode} (running : s.mode = .run) (active : s.active = true)
      (style : s.meter ≠ .vuLines) (length : codes.length ≤ max s.params.fftCells 10) :
      CommandEffect s (.ok .rndRef) (s.emit (fieldOps s.params codes))
  | phaseCounted (running : s.mode = .run) (active : s.active = true) (style : s.meter = .vuLines)
      (within : s.vcnt.toNat + 1 < phaseLength s.params s.vph) :
      CommandEffect s (.ok .rndRef)
        ((s.emit (phaseDrawOps s s.vph)).setPhase s.vph (.ofNat 8 (s.vcnt.toNat + 1)))
  | phaseEnded (running : s.mode = .run) (active : s.active = true) (style : s.meter = .vuLines)
      (last : phaseLength s.params s.vph ≤ s.vcnt.toNat + 1) :
      CommandEffect s (.ok .rndRef)
        (((s.emit (phaseDrawOps s s.vph)).setPhase s.vph.next 0).emit (phaseEntryOps s.params s.vph.next))
  | dbnStep {bypass pins : BitVec 3} (running : s.mode = .run) :
      CommandEffect s (.ok (.dbnStep bypass pins)) (stepButtons bypass pins s)
  | sysReset (notHalted : s.mode ≠ .halted) : CommandEffect s (.ok .sysReset) s.performReset
  | sysHalt (running : s.mode = .run) : CommandEffect s (.ok .sysHalt) (s.raiseFatal .fatalHalt s.cmd)

/-- Behind the mode gate a command has its effect in RUN and none in the other modes (spec/60_exceptions.md R803,
R811). -/
theorem CommandEffect.whenRunning {s : State} {i : Instr} {act : State → State} (notStatus : i ≠ .rdStat)
    (notReset : i ≠ .sysReset) (effect : s.mode = .run → CommandEffect s (.ok i) (act s)) :
    CommandEffect s (.ok i) (whenRunning s act) := by
  by_cases running : s.mode = .run
  · rw [whenRunning_run running]
    exact effect running
  · rw [whenRunning_stopped running]
    exact .skipped running (fun h => notStatus (Except.ok.inj h)) fun h => absurd (Except.ok.inj h) notReset

/-- Behind the check of BUSY a command of the capture buffer has its effect or faults (spec/60_exceptions.md R805). -/
theorem CommandEffect.captureGate {s : State} {i : Instr} {act : State → State} (capture : usesCapture i = true)
    (effect : s.mode = .run → s.busy = false → CommandEffect s (.ok i) (act s)) :
    CommandEffect s (.ok i) (Machine.whenRunning s fun s => unlessBusy s act) := by
  refine .whenRunning (by rintro rfl; cases capture) (by rintro rfl; cases capture) fun running => ?_
  cases busy : s.busy with
  | true => rw [unlessBusy_busy busy]; exact .busyViolation running capture busy
  | false => rw [unlessBusy_idle busy]; exact effect running busy

/-- The refresh of each style, a VU_LINES refresh within its phase and at its end (spec/43_renderer.md R620, R623). -/
theorem CommandEffect.refresh {s : State} (running : s.mode = .run) (active : s.active = true) :
    CommandEffect s (.ok .rndRef) (refresh s) := by
  cases style : s.meter with
  | fftVertical =>
    rw [refresh_fftVertical style]
    exact .fieldDrawn running active (by simp [style]) (by simp)
  | vuHarrow =>
    rw [refresh_vuHarrow style]
    refine .fieldDrawn running active (by simp [style]) (le_max_of_le_right ?_)
    cases s.params.harrowDir <;> simp
  | vuLines =>
    rw [refresh_vuLines style]
    unfold refreshVul
    dsimp only
    split
    · next last => exact .phaseEnded running active style last
    · next within => exact .phaseCounted running active style (Nat.lt_of_not_ge within)

/-- Every command answers a next state, by one of the effects. -/
theorem exec_effect (i : Instr) (s : State) : ∃ t, exec i s = .next t ∧ CommandEffect s (.ok i) t := by
  cases i with
  | nop =>
    refine ⟨s, rfl, ?_⟩
    by_cases running : s.mode = .run
    · exact .nop running
    · exact .skipped running nofun nofun
  | smpStart => exact ⟨_, rfl, .captureGate rfl .smpStart⟩
  | smpNext => exact ⟨_, rfl, .captureGate rfl .smpNext⟩
  | lvlRms => exact ⟨_, rfl, .captureGate rfl .lvlRms⟩
  | lvlFilt c => exact ⟨_, rfl, .whenRunning nofun nofun .lvlFilt⟩
  | lvlUpdate => exact ⟨_, rfl, .captureGate rfl .lvlUpdate⟩
  | fftRun => exact ⟨_, rfl, .captureGate rfl .fftRun⟩
  | dbMap cells => exact ⟨_, rfl, .whenRunning nofun nofun fun running => .readback rfl (.inl running) nofun⟩
  | rndAct n => exact ⟨_, rfl, .whenRunning nofun nofun .rndAct⟩
  | rndRef =>
    refine ⟨_, rfl, .whenRunning nofun nofun fun running => ?_⟩
    cases active : s.active with
    | true => rw [whenActive_active active]; exact .refresh running active
    | false => rw [whenActive_inactive active]; exact .notActive running active
  | dbnStep bypass pins => exact ⟨_, rfl, .whenRunning nofun nofun .dbnStep⟩
  | rdStat => exact ⟨_, rfl, .readback (i := .rdStat) rfl (.inr rfl) nofun⟩
  | rdSpec k => exact ⟨_, rfl, .whenRunning nofun nofun fun running => .readback rfl (.inl running) nofun⟩
  | rdLvl f c =>
    refine ⟨_, rfl, .whenRunning nofun nofun fun running => ?_⟩
    cases f <;> exact .readback rfl (.inl running) nofun
  | rdCap k => exact ⟨_, rfl, .captureGate rfl fun running idle => .readback rfl (.inl running) fun _ => idle⟩
  | sysReset =>
    by_cases halted : s.mode = .halted
    · exact ⟨s, exec_sysReset_halted halted, .skipped (by simp [halted]) nofun fun _ => halted⟩
    · exact ⟨_, exec_sysReset halted, .sysReset halted⟩
  | sysHalt => exact ⟨_, rfl, .whenRunning (act := State.raiseFatal .fatalHalt s.cmd) nofun nofun .sysHalt⟩

theorem effect_of_exec {i : Instr} {s t : State} (h : exec i s = .next t) : CommandEffect s (.ok i) t := by
  obtain ⟨t', answers, effect⟩ := exec_effect i s
  rw [answers] at h
  exact Host.Outcome.next.inj h ▸ effect

/-- The state with a transaction in the port registers, that move taken off the schedule (spec/30_encoding.md R300). -/
abbrev State.accept (s : State) (w : CmdWord) (a : Word32) (rest : List Input) : State :=
  { s with pending := rest, cmd := w, arg := a }

theorem step_legal {s t : State} {w : CmdWord} {a : Word32} {rest : List Input} {i : Instr}
    (hp : s.pending = .command w a :: rest) (hd : decode w = .ok i) (answers : exec i (s.accept w a rest) = .next t) :
    step s = .next t.release := by
  rw [step_move hp, takeMove, runTransaction_ok hd]
  exact congrArg (mapNext State.release) answers

theorem step_error {s : State} {w : CmdWord} {a : Word32} {rest : List Input} {e : DecodeError}
    (hp : s.pending = .command w a :: rest) (hd : decode w = .error e) :
    step s = .next (illegalCommand (s.accept w a rest)).release := by
  rw [step_move hp, takeMove, runTransaction_error hd]
  rfl

/-- A transaction, legal or not, answers a next state, by one of the effects, and leaves the ports at 0. -/
theorem step_command {s : State} {w : CmdWord} {a : Word32} {rest : List Input}
    (hp : s.pending = .command w a :: rest) :
    ∃ t, step s = .next t.release ∧ CommandEffect (s.accept w a rest) (decode w) t := by
  cases hd : decode w with
  | ok i =>
    obtain ⟨t, answers, effect⟩ := exec_effect i (s.accept w a rest)
    exact ⟨t, step_legal hp hd answers, effect⟩
  | error e =>
    refine ⟨_, step_error hp hd, ?_⟩
    unfold illegalCommand
    by_cases running : (s.accept w a rest).mode = .run
    · rw [whenRunning_run running]
      exact .illegal running
    · rw [whenRunning_stopped running]
      exact .skipped running nofun nofun

/-- `StepEffect s t`: the step from s, by the next move of the schedule, leads to t. A move that is not enabled passes
(log 5); a sample without room in CAPBUF leads nowhere (log 7). -/
inductive StepEffect (s : State) : State → Prop
  | idle (none : s.pending = []) : StepEffect s s
  | command {w : CmdWord} {a : Word32} {rest : List Input} {t : State} (next : s.pending = .command w a :: rest)
      (effect : CommandEffect (s.accept w a rest) (decode w) t) : StepEffect s t.release
  | sampleStored {v : Int} {rest : List Input} (next : s.pending = .sample v :: rest) (running : s.mode = .run)
      (busy : s.busy = true) (room : s.idx.toNat < s.params.captureLen) :
      StepEffect s (storeSample v { s with pending := rest })
  | samplePassed {v : Int} {rest : List Input} (next : s.pending = .sample v :: rest)
      (disabled : ¬(s.mode = .run ∧ s.busy = true)) : StepEffect s { s with pending := rest }
  | spuriousHalted {rest : List Input} (next : s.pending = .spurious :: rest) (notHalted : s.mode ≠ .halted) :
      StepEffect s (State.raiseFatal .fatalSpurious 0 { s with pending := rest })
  | spuriousPassed {rest : List Input} (next : s.pending = .spurious :: rest) (halted : s.mode = .halted) :
      StepEffect s { s with pending := rest }
  | resetAsserted {rest : List Input} (next : s.pending = .resetAsserted :: rest) :
      StepEffect s (State.performReset { s with pending := rest })

theorem step_sample_disabled {s : State} {v : Int} {rest : List Input} (hp : s.pending = .sample v :: rest)
    (disabled : ¬(s.mode = .run ∧ s.busy = true)) : step s = .next { s with pending := rest } :=
  (step_move hp).trans (sampleEvent_disabled (s := { s with pending := rest }) disabled v)

theorem step_spurious_halted {s : State} {rest : List Input} (hp : s.pending = .spurious :: rest)
    (halted : s.mode = .halted) : step s = .next { s with pending := rest } :=
  (step_move hp).trans (congrArg _ (spuriousEvent_halted (s := { s with pending := rest }) halted))

theorem step_spurious_notHalted {s : State} {rest : List Input} (hp : s.pending = .spurious :: rest)
    (notHalted : s.mode ≠ .halted) :
    step s = .next (State.raiseFatal .fatalSpurious 0 { s with pending := rest }) :=
  (step_move hp).trans (congrArg _ (spuriousEvent_notHalted (s := { s with pending := rest }) notHalted))

/-- A step answers a next state, by one of the effects, unless a sample finds no room in CAPBUF (log 7). -/
theorem step_answers {s : State}
    (room : s.mode = .run → s.busy = true → (∃ v rest, s.pending = .sample v :: rest) →
      s.idx.toNat < s.params.captureLen) :
    ∃ t, step s = .next t ∧ StepEffect s t := by
  cases hp : s.pending with
  | nil => exact ⟨s, step_idle hp, .idle hp⟩
  | cons move rest =>
    cases move with
    | command w a =>
      obtain ⟨t, answers, effect⟩ := step_command hp
      exact ⟨_, answers, .command hp effect⟩
    | sample v =>
      by_cases enabled : s.mode = .run ∧ s.busy = true
      · obtain ⟨running, busy⟩ := enabled
        have inside := room running busy ⟨v, rest, hp⟩
        exact ⟨_, step_sample_enabled hp running busy inside, .sampleStored hp running busy inside⟩
      · exact ⟨_, step_sample_disabled hp enabled, .samplePassed hp enabled⟩
    | spurious =>
      by_cases halted : s.mode = .halted
      · exact ⟨_, step_spurious_halted hp halted, .spuriousPassed hp halted⟩
      · exact ⟨_, step_spurious_notHalted hp halted, .spuriousHalted hp halted⟩
    | resetAsserted => exact ⟨_, step_resetAsserted hp, .resetAsserted hp⟩

/-- A step that answers a next state had room for its sample, if it stored one. -/
theorem effect_of_step {s t : State} (h : step s = .next t) : StepEffect s t := by
  obtain ⟨t', answers, effect⟩ : ∃ t', step s = .next t' ∧ StepEffect s t' := by
    refine step_answers fun running busy ⟨v, rest, hp⟩ => ?_
    by_contra full
    have stops : step s = .fault .captureIndexOutOfRange := by
      simp [step_move hp, takeMove, sampleEvent, running, busy, full]
    rw [h] at stops
    cases stops
  rw [answers] at h
  exact Host.Outcome.next.inj h ▸ effect

/-! The decoded command names the word (spec/30_encoding.md R312). -/

theorem word_of_decode {w : CmdWord} {i : Instr} (h : decode w = .ok i) : w = encode i :=
  (encodeInvertsDecode w i h).2.symm

/-- Settles O5: `step_command` for a word that decodes. -/
theorem stepRunsDecodedCommand : Obligations.StepRunsDecodedCommand := by
  intro s w a rest i hp hd
  obtain ⟨t, answers⟩ := exec_isNext i (s.accept w a rest)
  exact ⟨t, answers, step_legal hp hd answers⟩

/-- Settles O6: an empty schedule has no move to take. -/
theorem emptyScheduleWaits : Obligations.EmptyScheduleWaits := fun _ => step_idle

/-- Settles O8: the conversion source has a step only in RUN with BUSY = 1. -/
theorem noSampleWithoutArmedCapture : Obligations.NoSampleWithoutArmedCapture := by
  intro s v rest hp disabled
  refine step_sample_disabled hp fun ⟨running, busy⟩ => ?_
  rcases disabled with stopped | idle
  · exact stopped running
  · rw [busy] at idle; cases idle

/-- In RUN an illegal word raises ILLEGAL_CMD, with the word as FCMD (R313, spec/60_exceptions.md R804). -/
theorem step_illegal {s : State} {w : CmdWord} {a : Word32} {rest : List Input} {e : DecodeError}
    (hp : s.pending = .command w a :: rest) (running : s.mode = .run) (hd : decode w = .error e) :
    step s = .next { s with
      pending := rest, cmd := 0, arg := 0, mode := .faulted, fcode := .illegalCmd, fcmd := w } := by
  rw [step_error hp hd, illegalCommand, whenRunning_run (s := s.accept w a rest) running]
  rfl

/-- Settles O3: the words that do not decode are those without `CmdWord.Legal`, which reserved bits and sub decide and,
row by row, the opcode map. -/
theorem illegalWordsFaultAndNothingElse : Obligations.IllegalWordsFaultAndNothingElse :=
  ⟨fun w => (decode_error_iff_not_legal w).trans (legal_iff_reservedMask w),
    fun w => (decode_ok_iff_legal w).trans (legal_iff_existsUnique_row w),
    fun _ _ _ _ _ => step_illegal⟩


end Sys2Proof.Machine
end

section
/-! PROOFS. The invariants of the state (spec/10_state.md sections 2 to 8): each holds after reset, and each is kept by
every effect of a command and by every step. An effect that writes no register an invariant speaks of keeps it as it
is. -/

namespace Sys2Proof.Machine

/-! The parameters (log 1). -/

theorem CommandEffect.params_eq {s t : State} {d : Except DecodeError Instr} (h : CommandEffect s d t) :
    t.params = s.params := by
  cases h <;> rfl

theorem StepEffect.params_eq {s t : State} (h : StepEffect s t) : t.params = s.params := by
  cases h with
  | command _ effect => exact effect.params_eq
  | _ => rfl

/-! The capture invariant (spec/10_state.md R114). -/

theorem captureInv_resetWith (p : Params) : (State.resetWith p).CaptureInv :=
  ⟨Memory.reset_wf p, nofun, fun _ => .inl rfl⟩

theorem CommandEffect.captureInv {s t : State} {d : Except DecodeError Instr} (h : CommandEffect s d t)
    (hs : s.CaptureInv) : t.CaptureInv := by
  have ⟨wf, _⟩ := hs
  cases h with
  | smpStart | smpNext =>
    have room : 0 < s.params.captureLen := Nat.two_pow_pos _
    exact ⟨wf, fun _ => room, nofun⟩
  | fftRun => exact ⟨Memory.writeSpec_wf wf (spectrumBins_length _ _), hs.2⟩
  | sysReset => exact captureInv_resetWith s.params
  | _ => exact hs

/-- The last sample takes IDX to N and clears BUSY; any other leaves room for the next (spec/40_sampler.md R421). -/
theorem captureInv_storeSample {s : State} (hp : s.params.Valid) (hs : s.CaptureInv)
    (room : s.idx.toNat < s.params.captureLen) (v : Int) : (storeSample v s).CaptureInv := by
  obtain ⟨wf, -, -⟩ := hs
  have ⟨⟨_, _, width, _⟩, _⟩ := hp
  refine ⟨Memory.writeCap_wf wf _ (sampleValue_inRange _ v width), fun busy => ?_, fun idle => ?_⟩
  · have more : s.idx.toNat + 1 ≠ s.params.captureLen := of_decide_eq_true busy
    rw [storeSample_idx hp room]
    show s.idx.toNat + 1 < s.params.captureLen
    omega
  · rw [storeSample_idx hp room]
    exact .inr ((storeSample_busy v s).mp idle)

theorem StepEffect.captureInv {s t : State} (h : StepEffect s t) (hp : s.params.Valid) (hs : s.CaptureInv) :
    t.CaptureInv := by
  cases h with
  | command _ effect => exact effect.captureInv hs
  | sampleStored _ _ _ room => exact captureInv_storeSample hp hs room _
  | resetAsserted => exact captureInv_resetWith s.params
  | _ => exact hs

/-- Settles O49: the effects of the commands, then those of the step. -/
theorem stepKeepsCaptureInvariant : Obligations.StepKeepsCaptureInvariant :=
  fun _ _ hp hs h => (effect_of_step h).captureInv hp hs

/-- Settles O52: while a capture is in progress the capture invariant leaves room for the next sample. -/
theorem captureInvariantNeverStops : Obligations.CaptureInvariantNeverStops := by
  rintro s ⟨-, room, -⟩
  obtain ⟨t, answers, -⟩ := step_answers fun _ busy _ => room busy
  exact ⟨t, answers⟩

/-! MODE, FCODE and FCMD (spec/60_exceptions.md R801). -/

theorem CommandEffect.faultInv {s t : State} {d : Except DecodeError Instr} (h : CommandEffect s d t)
    (hd : decode s.cmd = d) (hs : s.FaultInv) : t.FaultInv := by
  cases h with
  | illegal =>
    have recorded : (decode s.cmd).toOption.isNone = true := by rw [hd]; rfl
    exact ⟨rfl, recorded⟩
  | busyViolation _ capture =>
    have recorded : (decode s.cmd).toOption.any usesCapture = true := by rw [hd]; exact capture
    exact ⟨rfl, recorded⟩
  | notActive => exact ⟨rfl, beq_iff_eq.mpr (word_of_decode hd)⟩
  | sysHalt => exact ⟨rfl, beq_iff_eq.mpr (word_of_decode hd)⟩
  | sysReset => exact ⟨rfl, rfl⟩
  | _ => exact hs

theorem StepEffect.faultInv {s t : State} (h : StepEffect s t) (hs : s.FaultInv) : t.FaultInv := by
  cases h with
  | command _ effect => exact effect.faultInv rfl hs
  | spuriousHalted | resetAsserted => exact ⟨rfl, rfl⟩
  | _ => exact hs

/-! The record of ended runs (spec/60_exceptions.md R818; log 8). -/

/-- A reset of a faulted block records an outcome whose codes agree. -/
theorem historyInv_performReset {s : State} (hf : s.FaultInv) (hs : s.HistoryInv) : s.performReset.HistoryInv := by
  intro o ho
  rcases List.mem_append.mp ho with old | new
  · exact hs o old
  · by_cases running : s.mode = .run
    · simp [running] at new
    · obtain rfl : o = ⟨s.mode, s.fcode, s.fcmd⟩ := by simpa [running] using new
      exact ⟨running, hf⟩

theorem CommandEffect.historyInv {s t : State} {d : Except DecodeError Instr} (h : CommandEffect s d t)
    (hf : s.FaultInv) (hs : s.HistoryInv) : t.HistoryInv := by
  cases h with
  | sysReset => exact historyInv_performReset hf hs
  | _ => exact hs

theorem StepEffect.historyInv {s t : State} (h : StepEffect s t) (hf : s.FaultInv) (hs : s.HistoryInv) :
    t.HistoryInv := by
  cases h with
  | command _ effect => exact effect.historyInv hf hs
  | resetAsserted => exact historyInv_performReset hf hs
  | _ => exact hs

/-! The registers that are loaded at reset only (spec/10_state.md R123, R138). -/

theorem constantInv_resetWith (p : Params) : (State.resetWith p).ConstantInv := by
  refine ⟨fun c => ?_, fun b => ?_⟩
  · cases c <;> exact toNat_ofNat_alpha p _
  · cases b <;> exact ⟨rfl, rfl⟩

theorem CommandEffect.constantInv {s t : State} {d : Except DecodeError Instr} (h : CommandEffect s d t)
    (hs : s.ConstantInv) : t.ConstantInv := by
  have ⟨alpha, timeouts⟩ := hs
  cases h with
  | dbnStep =>
    refine ⟨alpha, fun b => ?_⟩
    rw [stepButtons_get]
    obtain ⟨rise, fall⟩ := timeouts b
    exact ⟨(Debouncer.call_toRise _ _ _ _).trans rise, (Debouncer.call_toFall _ _ _ _).trans fall⟩
  | sysReset => exact constantInv_resetWith s.params
  | _ => exact hs

theorem StepEffect.constantInv {s t : State} (h : StepEffect s t) (hs : s.ConstantInv) : t.ConstantInv := by
  cases h with
  | command _ effect => exact effect.constantInv hs
  | resetAsserted => exact constantInv_resetWith s.params
  | _ => exact hs

/-! The debounce timers (spec/10_state.md R137). -/

theorem timerInv_resetWith (p : Params) : (State.resetWith p).TimerInv := by
  intro b _
  cases b <;> rfl

theorem CommandEffect.timerInv {s t : State} {d : Except DecodeError Instr} (h : CommandEffect s d t)
    (hs : s.TimerInv) : t.TimerInv := by
  cases h with
  | dbnStep =>
    intro b
    rw [stepButtons_get]
    exact Debouncer.call_idle (hs b) _ _ _
  | sysReset => exact timerInv_resetWith s.params
  | _ => exact hs

theorem StepEffect.timerInv {s t : State} (h : StepEffect s t) (hs : s.TimerInv) : t.TimerInv := by
  cases h with
  | command _ effect => exact effect.timerInv hs
  | resetAsserted => exact timerInv_resetWith s.params
  | _ => exact hs

/-! The meter (spec/10_state.md R131-R133). -/

/-- Every phase has at least one refresh (spec/00_scope.md R8). -/
theorem phaseLength_pos {p : Params} (hp : p.Valid) (f : Phase) : 0 < phaseLength p f := by
  obtain ⟨-, -, -, -, -, blankA, drawLeft, blankB, drawRight, -⟩ := hp
  cases f with
  | blankA => exact blankA.1
  | drawLeft => exact drawLeft.1
  | blankB => exact blankB.1
  | drawRight => exact drawRight.1

theorem meterInv_resetWith {p : Params} (hp : p.Valid) : (State.resetWith p).MeterInv :=
  ⟨phaseLength_pos hp _, fun _ => ⟨rfl, rfl, rfl⟩⟩

theorem CommandEffect.meterInv {s t : State} {d : Except DecodeError Instr} (h : CommandEffect s d t)
    (hp : s.params.Valid) (hs : s.MeterInv) : t.MeterInv := by
  cases h with
  | rndAct => exact ⟨phaseLength_pos hp _, nofun⟩
  | phaseCounted _ active _ within =>
    have short := phaseLength_le hp s.vph
    have counted : (BitVec.ofNat 8 (s.vcnt.toNat + 1)).toNat = s.vcnt.toNat + 1 :=
      (BitVec.toNat_ofNat _ _).trans (Nat.mod_eq_of_lt (by omega))
    exact ⟨counted.trans_lt within, fun inactive => absurd (active.symm.trans inactive) nofun⟩
  | phaseEnded _ active => exact ⟨phaseLength_pos hp _, fun inactive => absurd (active.symm.trans inactive) nofun⟩
  | sysReset => exact meterInv_resetWith hp
  | _ => exact hs

theorem StepEffect.meterInv {s t : State} (h : StepEffect s t) (hp : s.params.Valid) (hs : s.MeterInv) :
    t.MeterInv := by
  cases h with
  | command _ effect => exact effect.meterInv hp hs
  | resetAsserted => exact meterInv_resetWith hp
  | _ => exact hs

/-! SPEC[0] and the raw levels (spec/10_state.md R120, R121). -/

theorem analysisInv_resetWith (p : Params) : (State.resetWith p).AnalysisInv := by
  refine ⟨Memory.readSpec_reset p 0, fun c => ?_⟩
  cases c <;> exact Nat.zero_le _

/-- A measured level is within the range of the RMS (spec/42_level.md R500). -/
theorem analysisInv_measureLevel {s : State} (hp : s.params.Valid) (hw : s.mem.wf s.params) (hs : s.AnalysisInv) :
    (measureLevel s).AnalysisInv := by
  obtain ⟨bin, levels⟩ := hs
  refine ⟨bin, fun c => ?_⟩
  show ((s.level.set s.ch _).get c).toNat ≤ _
  by_cases same : c = s.ch
  · rw [same, Stereo.get_set_same, BitVec.toNat_ofNat, Nat.mod_eq_of_lt (rms_lt hp hw)]
    exact rms_le hp hw
  · rw [Stereo.get_set_other _ _ same]
    exact levels c

theorem CommandEffect.analysisInv {s t : State} {d : Except DecodeError Instr} (h : CommandEffect s d t)
    (hp : s.params.Valid) (hw : s.mem.wf s.params) (hs : s.AnalysisInv) : t.AnalysisInv := by
  cases h with
  | lvlRms | lvlUpdate => exact analysisInv_measureLevel hp hw hs
  | fftRun => exact ⟨spectrumBins_zero _ _, hs.2⟩
  | sysReset => exact analysisInv_resetWith s.params
  | _ => exact hs

theorem StepEffect.analysisInv {s t : State} (h : StepEffect s t) (hp : s.params.Valid) (hw : s.mem.wf s.params)
    (hs : s.AnalysisInv) : t.AnalysisInv := by
  cases h with
  | command _ effect => exact effect.analysisInv hp hw hs
  | resetAsserted => exact analysisInv_resetWith s.params
  | _ => exact hs

/-! The display stream (spec/10_state.md R140). -/

/-- A command appends to DOUT, and only what fits the display. -/
theorem CommandEffect.dout_append {s t : State} {d : Except DecodeError Instr} (h : CommandEffect s d t) :
    ∃ ops, t.dout = s.dout ++ ops ∧ (s.params.Valid → ∀ op ∈ ops, op.fits s.params = true) := by
  cases h with
  | rndAct => exact ⟨_, rfl, fun hp => activationOps_fits hp _⟩
  | fieldDrawn => exact ⟨_, rfl, fun hp => fieldOps_fits hp _⟩
  | phaseCounted => exact ⟨_, rfl, fun hp => phaseDrawOps_fits hp _⟩
  | phaseEnded =>
    exact ⟨_, List.append_assoc _ _ _, fun hp => append_fits (phaseDrawOps_fits hp _) (phaseEntryOps_fits hp _)⟩
  | sysHalt => exact ⟨_, rfl, fun hp => diagnosticOps_fits hp⟩
  | _ => exact ⟨[], (List.append_nil _).symm, fun _ => nofun⟩

theorem StepEffect.dout_append {s t : State} (h : StepEffect s t) :
    ∃ ops, t.dout = s.dout ++ ops ∧ (s.params.Valid → ∀ op ∈ ops, op.fits s.params = true) := by
  cases h with
  | command _ effect => exact effect.dout_append
  | spuriousHalted => exact ⟨_, rfl, fun hp => diagnosticOps_fits hp⟩
  | _ => exact ⟨[], (List.append_nil _).symm, fun _ => nofun⟩

theorem StepEffect.outputInv {s t : State} (h : StepEffect s t) (hp : s.params.Valid) (hs : s.OutputInv) :
    t.OutputInv := by
  obtain ⟨ops, appended, fits⟩ := h.dout_append
  unfold State.OutputInv
  rw [appended, h.params_eq]
  exact append_fits hs (fits hp)

/-- Settles O53: every effect appends. -/
theorem displayStreamIsAppendOnly : Obligations.DisplayStreamIsAppendOnly := by
  intro s t h
  obtain ⟨ops, appended, -⟩ := (effect_of_step h).dout_append
  exact ⟨ops, appended⟩

/-! The port registers (spec/10_state.md R101, R102; log 4). -/

theorem StepEffect.portInv {s t : State} (h : StepEffect s t) (hs : s.PortInv) : t.PortInv := by
  cases h with
  | command => exact ⟨rfl, rfl⟩
  | _ => exact hs

/-! Every invariant. -/

/-- Settles O50: each invariant by itself; the record needs the codes, the level the samples in CAPBUF. -/
theorem stepKeepsStateInvariant : Obligations.StepKeepsStateInvariant := by
  intro s t hs answers
  have h := effect_of_step answers
  exact
    { params := h.params_eq ▸ hs.params
      capture := h.captureInv hs.params hs.capture
      fault := h.faultInv hs.fault
      history := h.historyInv hs.fault hs.history
      constant := h.constantInv hs.constant
      timer := h.timerInv hs.timer
      meter := h.meterInv hs.params hs.meter
      analysis := h.analysisInv hs.params hs.capture.1 hs.analysis
      output := h.outputInv hs.params hs.output
      port := h.portInv hs.port }

theorem inv_resetWith {p : Params} (hp : p.Valid) : (State.resetWith p).Inv where
  params := hp
  capture := captureInv_resetWith p
  fault := ⟨rfl, rfl⟩
  history := nofun
  constant := constantInv_resetWith p
  timer := timerInv_resetWith p
  meter := meterInv_resetWith hp
  analysis := analysisInv_resetWith p
  output := nofun
  port := ⟨rfl, rfl⟩

/-- Settles O51: REF meets the constraints of spec/00_scope.md R8. -/
theorem resetMeetsStateInvariant : Obligations.ResetMeetsStateInvariant :=
  ⟨inv_resetWith (p := Params.ref) (by decide +kernel), fun _ => inv_resetWith⟩

/-- Settles O11: `atReset_resetWith` with the other fields as they are after power-on. -/
theorem resetStateHoldsTheTableValues : Obligations.ResetStateHoldsTheTableValues :=
  ⟨atReset_resetWith Params.ref _ _ _ _ _, fun p => ⟨atReset_resetWith p _ _ _ _ _, rfl⟩⟩

end Sys2Proof.Machine
end

section
/-! PROOFS. Faults, modes and runs (spec/60_exceptions.md): the one place a protocol fault comes from, what still acts
in FAULTED and HALTED, and the cut between two runs. -/

namespace Sys2Proof.Machine

/-! The check order (R806). -/

/-- The protocol fault of a word that decodes as d, in RUN: the first check that applies. -/
def protocolFault (s : State) : Except DecodeError Instr → Option FaultCode
  | .error _ => some .illegalCmd
  | .ok i =>
    if usesCapture i = true ∧ s.busy = true then some .busyViolation
    else if i = .rndRef ∧ s.active = false then some .notActive
    else none

/-- In RUN the first check that applies enters FAULTED with its code, and with none the block is not FAULTED. -/
theorem CommandEffect.of_running {s t : State} {d : Except DecodeError Instr} (h : CommandEffect s d t)
    (running : s.mode = .run) :
    (∃ code, protocolFault s d = some code ∧ t = s.raiseFault code) ∨
      (protocolFault s d = none ∧ t.mode ≠ .faulted) := by
  have passes : s.mode ≠ .faulted := by simp [running]
  cases h with
  | skipped stopped => exact absurd running stopped
  | illegal => exact .inl ⟨_, rfl, rfl⟩
  | busyViolation _ capture busy => exact .inl ⟨_, if_pos ⟨capture, busy⟩, rfl⟩
  | notActive _ inactive => exact .inl ⟨.notActive, by simp [protocolFault, usesCapture, inactive], rfl⟩
  | @readback i reads _ idle =>
    have other : i ≠ .rndRef := by rintro rfl; cases reads
    exact .inr ⟨by simpa [protocolFault, other] using idle, passes⟩
  | smpStart _ idle | smpNext _ idle | lvlRms _ idle | lvlUpdate _ idle | fftRun _ idle =>
    exact .inr ⟨by simp [protocolFault, idle], passes⟩
  | fieldDrawn _ active | phaseCounted _ active | phaseEnded _ active =>
    exact .inr ⟨by simp [protocolFault, usesCapture, active], passes⟩
  | nop | lvlFilt | rndAct | dbnStep => exact .inr ⟨rfl, passes⟩
  | sysReset | sysHalt => exact .inr ⟨rfl, nofun⟩

/-- A protocol fault has one of three codes (R801). -/
theorem protocolFault_mem {s : State} {d : Except DecodeError Instr} {code : FaultCode}
    (h : protocolFault s d = some code) : code ∈ [FaultCode.illegalCmd, .busyViolation, .notActive] := by
  unfold protocolFault at h
  split at h
  · cases h; decide
  · split_ifs at h <;> cases h <;> decide

/-- In FAULTED and HALTED the status is read, SYS.RESET acts in FAULTED, and nothing else does anything (R803, R811). -/
theorem CommandEffect.of_stopped {s t : State} {d : Except DecodeError Instr} (h : CommandEffect s d t)
    (stopped : s.mode ≠ .run) :
    t = s ∨ (d = .ok .rdStat ∧ t = s.setResult s.statusWord) ∨
      (d = .ok .sysReset ∧ s.mode = .faulted ∧ t = s.performReset) := by
  cases h with
  | skipped => exact .inl rfl
  | readback _ gate =>
    obtain rfl := gate.resolve_left stopped
    exact .inr (.inl ⟨rfl, rfl⟩)
  | sysReset notHalted =>
    refine .inr (.inr ⟨rfl, ?_, rfl⟩)
    cases mode : s.mode with
    | run => exact absurd mode stopped
    | faulted => rfl
    | halted => exact absurd mode notHalted
  | illegal running | busyViolation running | notActive running | nop running | smpStart running | smpNext running
  | lvlRms running | lvlFilt running | lvlUpdate running | fftRun running | rndAct running | fieldDrawn running
  | phaseCounted running | phaseEnded running | dbnStep running | sysHalt running => exact absurd running stopped

/-- Settles O16: `protocolFault` is the check order. -/
theorem firstApplicableCheckFaults : Obligations.FirstApplicableCheckFaults := by
  intro s w a rest hp running
  obtain ⟨t, answers, effect⟩ := step_command hp
  refine ⟨t.release, answers, ?_⟩
  have checks := effect.of_running running
  cases hd : decode w with
  | error e =>
    rw [hd] at checks
    obtain ⟨code, ⟨⟩, rfl⟩ | ⟨⟨⟩, -⟩ := checks
    exact ⟨rfl, rfl⟩
  | ok i =>
    rw [hd] at checks
    simp only [protocolFault] at checks
    dsimp only
    split_ifs at checks ⊢
    · obtain ⟨code, ⟨⟩, rfl⟩ | ⟨⟨⟩, -⟩ := checks
      exact ⟨rfl, rfl⟩
    · obtain ⟨code, ⟨⟩, rfl⟩ | ⟨⟨⟩, -⟩ := checks
      exact ⟨rfl, rfl⟩
    · obtain ⟨code, ⟨⟩, -⟩ | ⟨-, passes⟩ := checks
      exact passes

/-- Settles O15: a fault is entered by `protocolFault` in RUN, and in HALTED by nothing. -/
theorem faultEntryIsPrecise : Obligations.FaultEntryIsPrecise := by
  intro s t answers notFaulted faulted
  cases effect_of_step answers with
  | idle | sampleStored | samplePassed | spuriousPassed => exact absurd faulted notFaulted
  | spuriousHalted | resetAsserted => cases faulted
  | @command w a rest t hp effect =>
    by_cases running : s.mode = .run
    · obtain ⟨code, fault, rfl⟩ | ⟨-, passes⟩ := effect.of_running running
      · exact ⟨running, w, a, rest, code, hp, protocolFault_mem fault, rfl⟩
      · exact absurd faulted passes
    · obtain rfl | ⟨-, rfl⟩ | ⟨-, wasFaulted, -⟩ := effect.of_stopped running
      · exact absurd faulted notFaulted
      · exact absurd faulted notFaulted
      · exact absurd wasFaulted notFaulted

/-! FAULTED and HALTED (R803, R811). -/

theorem step_rdStat {s : State} {a : Word32} {rest : List Input} (hp : s.pending = .command 0xB000 a :: rest) :
    step s = .next { s with pending := rest, cmd := 0, arg := 0, result := s.statusWord } :=
  step_legal hp (i := .rdStat) rfl rfl

/-- In a stopped block a word other than those two does nothing. -/
theorem step_stopped {s : State} {w : CmdWord} {a : Word32} {rest : List Input}
    (hp : s.pending = .command w a :: rest) (stopped : s.mode ≠ .run) (notStatus : w ≠ 0xB000)
    (notReset : s.mode = .faulted → w ≠ 0xF000) : step s = .next { s with pending := rest, cmd := 0, arg := 0 } := by
  obtain ⟨t, answers, effect⟩ := step_command hp
  obtain rfl | ⟨status, -⟩ | ⟨reset, faulted, -⟩ := effect.of_stopped stopped
  · exact answers
  · exact absurd (word_of_decode status) notStatus
  · exact absurd (word_of_decode reset) (notReset faulted)

theorem step_sample_stopped {s : State} {v : Int} {rest : List Input} (hp : s.pending = .sample v :: rest)
    (stopped : s.mode ≠ .run) : step s = .next { s with pending := rest } :=
  step_sample_disabled hp fun enabled => stopped enabled.1

/-- Settles O12: RD.STAT and SYS.RESET by their words, every other word by `step_stopped`. -/
theorem faultedBlockOnlyReadsStatusOrResets : Obligations.FaultedBlockOnlyReadsStatusOrResets := by
  intro s rest faulted
  have stopped : s.mode ≠ .run := by simp [faulted]
  have notHalted : s.mode ≠ .halted := by simp [faulted]
  exact ⟨fun _ => step_rdStat,
    fun a hp => ⟨_, step_legal hp (i := .sysReset) rfl (exec_sysReset (s := s.accept 0xF000 a rest) notHalted),
      atReset_resetWith _ _ _ _ _ _, rfl, rfl⟩,
    fun _ _ notStatus notReset hp => step_stopped hp stopped notStatus fun _ => notReset,
    fun _ hp => step_sample_stopped hp stopped,
    fun hp => ⟨_, step_spurious_notHalted hp notHalted, rfl, rfl⟩⟩

/-- Settles O13: as in FAULTED, but SYS.RESET is one of the words without effect. -/
theorem haltedBlockOnlyReadsStatus : Obligations.HaltedBlockOnlyReadsStatus := by
  intro s rest halted
  have stopped : s.mode ≠ .run := by simp [halted]
  exact ⟨fun _ => step_rdStat,
    fun _ _ notStatus hp => step_stopped hp stopped notStatus fun faulted => absurd (halted.symm.trans faulted) nofun,
    fun _ hp => step_sample_stopped hp stopped,
    fun hp => step_spurious_halted hp halted,
    fun hp => ⟨_, step_resetAsserted hp, State.atReset_performReset _⟩⟩

/-! Runs (R816, R818). -/

theorem head?_pending {s : State} {move : Input} (h : s.pending.head? = some move) :
    ∃ rest, s.pending = move :: rest := List.head?_eq_some_iff.mp h

/-- The move that ends a run is a reset, and it keeps the outcome of the run. -/
theorem step_of_endsRun {s t : State} (answers : step s = .next t) (ends : s.endsRun = true) :
    t.AtReset ∧ t.endedRuns = s.endedRuns ++ [⟨s.mode, s.fcode, s.fcmd⟩] := by
  obtain ⟨stopped, reset | ⟨faulted, a, reset⟩⟩ := State.endsRun_cases ends
  · obtain ⟨rest, hp⟩ := head?_pending reset
    cases answers.symm.trans (step_resetAsserted hp)
    exact ⟨State.atReset_performReset _, by simp [stopped]⟩
  · obtain ⟨rest, hp⟩ := head?_pending reset
    have notHalted : (s.accept 0xF000 a rest).mode ≠ .halted := by simp [faulted]
    cases answers.symm.trans (step_legal hp (i := .sysReset) rfl (exec_sysReset notHalted))
    exact ⟨atReset_resetWith _ _ _ _ _ _, by simp [stopped]⟩

/-- A reset of a running block ends no run. -/
theorem endedRuns_performReset {s : State} (running : s.mode = .run) : s.performReset.endedRuns = s.endedRuns := by
  simp [running]

theorem CommandEffect.endedRuns_eq {s t : State} {d : Except DecodeError Instr} (h : CommandEffect s d t)
    (running : s.mode = .run) : t.endedRuns = s.endedRuns := by
  cases h with
  | sysReset => exact endedRuns_performReset running
  | _ => rfl

/-- A step out of FAULTED or HALTED that does not end the run stays there, and the record is left. -/
theorem StepEffect.within_run {s t : State} (h : StepEffect s t) (goesOn : s.endsRun = false) :
    t.endedRuns = s.endedRuns ∧ (s.mode ≠ .run → t.mode ≠ .run) := by
  cases h with
  | idle | sampleStored | samplePassed | spuriousPassed => exact ⟨rfl, id⟩
  | spuriousHalted => exact ⟨rfl, fun _ => nofun⟩
  | resetAsserted next =>
    have running : s.mode = .run := by simpa [State.endsRun, next] using goesOn
    exact ⟨endedRuns_performReset running, fun stopped => absurd running stopped⟩
  | @command w a rest t next effect =>
    by_cases running : s.mode = .run
    · exact ⟨effect.endedRuns_eq running, fun stopped => absurd running stopped⟩
    · obtain rfl | ⟨-, rfl⟩ | ⟨reset, faulted, -⟩ := effect.of_stopped running
      · exact ⟨rfl, id⟩
      · exact ⟨rfl, id⟩
      · have word : w = 0xF000 := word_of_decode reset
        have ends : s.endsRun = true := by simpa [State.endsRun, next, word] using faulted
        rw [ends] at goesOn
        cases goesOn

/-- A step that returns to RUN ends a run. -/
theorem endsRun_of_return {s t : State} (answers : step s = .next t) (stopped : s.mode ≠ .run)
    (returns : t.mode = .run) : s.endsRun = true := by
  by_contra goesOn
  exact ((effect_of_step answers).within_run (Bool.eq_false_of_not_eq_true goesOn)).2 stopped returns

/-- Out of HALTED leads RST_N alone. -/
theorem resetAsserted_of_leaves_halted {s t : State} (answers : step s = .next t) (halted : s.mode = .halted)
    (leaves : t.mode ≠ .halted) : s.pending.head? = some .resetAsserted := by
  have stopped : s.mode ≠ .run := by simp [halted]
  cases effect_of_step answers with
  | idle | sampleStored | samplePassed | spuriousPassed => exact absurd halted leaves
  | spuriousHalted _ notHalted => exact absurd halted notHalted
  | resetAsserted next => rw [next]; rfl
  | command _ effect =>
    obtain rfl | ⟨-, rfl⟩ | ⟨-, faulted, -⟩ := effect.of_stopped stopped
    · exact absurd halted leaves
    · exact absurd halted leaves
    · exact absurd (halted.symm.trans faulted) nofun

/-- Where MODE and FCODE agree, a cause is recorded exactly outside RUN (R801). -/
theorem fcode_ne_none_iff {s : State} (h : s.FaultInv) : s.fcode ≠ .none ↔ s.mode ≠ .run := by
  rw [h.1]
  cases s.fcode <;> simp [FaultCode.mode]

/-- Within one run the record is left, RUN is not returned to, and FCODE is not cleared. -/
theorem runWithin_keeps {n : Nat} {s t : State} (h : runWithin n s = .next t) :
    t.endedRuns = s.endedRuns ∧ (s.mode ≠ .run → t.mode ≠ .run) ∧ (s.FaultInv → t.FaultInv) := by
  induction n generalizing s with
  | zero =>
    cases h
    exact ⟨rfl, id, id⟩
  | succ n ih =>
    cases ends : s.endsRun with
    | true =>
      cases (runWithin_end ends (n + 1)).symm.trans h
      exact ⟨rfl, id, id⟩
    | false =>
      cases answers : step s with
      | next u =>
        rw [runWithin_step ends answers] at h
        have effect := effect_of_step answers
        obtain ⟨record, stays⟩ := effect.within_run ends
        obtain ⟨record', stays', agrees'⟩ := ih h
        exact ⟨record'.trans record, stays' ∘ stays, agrees' ∘ effect.faultInv⟩
      | fault r | refused r => simp [runWithin, ends, answers] at h

theorem endsRun_running {s : State} (running : s.mode = .run) : s.endsRun = false := by
  by_contra ends
  exact (State.endsRun_cases (Bool.eq_true_of_not_eq_false ends)).1 running

/-- A run with MODE = RUN throughout has no end to be cut at. -/
theorem runWithin_eq_run {n : Nat} {s : State} (h : s.runningThrough n = true) :
    runWithin n s = Sys2Proof.core.run n s := by
  induction n generalizing s with
  | zero => rfl
  | succ n ih =>
    obtain ⟨running, later⟩ := Bool.and_eq_true_iff.mp h
    have goesOn := endsRun_running (of_decide_eq_true running)
    cases answers : step s with
    | next t =>
      rw [answers] at later
      rw [runWithin_step goesOn answers, run_step answers]
      exact ih later
    | fault r | refused r =>
      rw [answers] at later
      cases later

/-- Settles O17: the steps by `StepEffect.within_run` and `step_of_endsRun`, the runs by induction on their steps. -/
theorem onlyResetLeavesFaultedOrHalted : Obligations.OnlyResetLeavesFaultedOrHalted := by
  refine ⟨fun s t answers => ⟨fun faulted returns => ?_, resetAsserted_of_leaves_halted answers,
    step_of_endsRun answers, (effect_of_step answers).within_run⟩, fun n s t h => ?_, fun _ _ => runWithin_eq_run⟩
  · have ends := endsRun_of_return answers (by simp [faulted]) returns
    exact (State.endsRun_cases ends).2.imp_right And.right
  · obtain ⟨record, stays, agrees⟩ := runWithin_keeps h
    refine ⟨record, stays, fun agree cause => ?_⟩
    rw [fcode_ne_none_iff (agrees agree)]
    exact stays ((fcode_ne_none_iff agree).mp cause)

end Sys2Proof.Machine
end

section
/-! PROOFS. What commands and steps leave unchanged (spec/10_state.md, spec/20_memory.md): the writers of the index
spaces, of BUSY, of RESULT and of the constants, and a capture cycle as a run of steps. -/

namespace Sys2Proof.Machine

/-! The index spaces and BUSY (spec/20_memory.md sections 1 and 4). -/

theorem CommandEffect.capbuf_eq {s t : State} {d : Except DecodeError Instr} (h : CommandEffect s d t)
    (notReset : d ≠ .ok .sysReset) : t.mem.capbuf = s.mem.capbuf := by
  cases h with
  | sysReset => exact absurd rfl notReset
  | _ => rfl

theorem CommandEffect.spec_writer {s t : State} {d : Except DecodeError Instr} (h : CommandEffect s d t)
    (notReset : d ≠ .ok .sysReset) (written : t.mem.spec ≠ s.mem.spec) :
    s.mode = .run ∧ s.busy = false ∧ d = .ok .fftRun := by
  cases h with
  | sysReset => exact absurd rfl notReset
  | fftRun running idle => exact ⟨running, idle, rfl⟩
  | _ => exact absurd rfl written

theorem CommandEffect.busy_kept {s t : State} {d : Except DecodeError Instr} (h : CommandEffect s d t)
    (notReset : d ≠ .ok .sysReset) (busy : s.busy = true) : t.busy = true := by
  cases h with
  | sysReset => exact absurd rfl notReset
  | smpStart | smpNext => rfl
  | _ => exact busy

theorem decode_ne_sysReset {s : State} {w : CmdWord} {a : Word32} {rest : List Input}
    (next : s.pending = .command w a :: rest) (notReset : ¬ s.ResetNext) : decode w ≠ .ok .sysReset := by
  intro reset
  obtain rfl : w = 0xF000 := word_of_decode reset
  exact notReset (.inr ⟨a, by rw [next]; rfl⟩)

theorem not_resetAsserted {s : State} {rest : List Input} (notReset : ¬ s.ResetNext) :
    s.pending ≠ .resetAsserted :: rest := by
  intro next
  exact notReset (.inl (by rw [next]; rfl))

/-- Settles O54: of the commands FFT.RUN alone writes SPEC and none CAPBUF; of the events only the sample writes. -/
theorem indexSpacesHaveOneWriter : Obligations.IndexSpacesHaveOneWriter := by
  intro s t answers notReset
  cases effect_of_step answers with
  | idle | samplePassed | spuriousPassed | spuriousHalted => exact ⟨absurd rfl, absurd rfl⟩
  | sampleStored next running busy => exact ⟨fun _ => ⟨running, busy, _, by rw [next]; rfl⟩, absurd rfl⟩
  | resetAsserted next => exact absurd next (not_resetAsserted notReset)
  | command next effect =>
    have other := decode_ne_sysReset next notReset
    refine ⟨absurd (effect.capbuf_eq other), fun written => ?_⟩
    obtain ⟨running, idle, fft⟩ := effect.spec_writer other written
    exact ⟨running, idle, _, by rw [next, word_of_decode fft]; rfl⟩

/-- Settles O55: of the moves that are no reset a stored sample alone clears BUSY, and only at the end of the cycle. -/
theorem busyFallsOnlyWithTheLastSample : Obligations.BusyFallsOnlyWithTheLastSample := by
  intro s t answers busy falls notReset
  cases effect_of_step answers with
  | idle | samplePassed | spuriousPassed | spuriousHalted => exact absurd (busy.symm.trans falls) nofun
  | @sampleStored v rest next running =>
    exact ⟨running, (storeSample_busy v { s with pending := rest }).mp falls, v, by rw [next]; rfl⟩
  | resetAsserted next => exact absurd next (not_resetAsserted notReset)
  | command next effect =>
    have kept := effect.busy_kept (decode_ne_sysReset next notReset) busy
    exact absurd (kept.symm.trans falls) nofun

/-! A capture cycle (spec/20_memory.md section 4, spec/40_sampler.md R421). -/

/-- One more sample behind the ones captured. -/
theorem take_succ_set {α : Type} (xs : List α) {n : Nat} (h : n < xs.length) (v : α) :
    (xs.set n v).take (n + 1) = xs.take n ++ [v] := by
  rw [List.take_succ_eq_append_getElem (by simpa using h), List.getElem_set_self, List.take_set_of_le le_rfl]

/-- The samples a cycle lacks, taken one by one: the cycle is in progress exactly while one is lacking. -/
theorem run_samples {samples : List Int} {s : State} {rest : List Input} (hp : s.params.Valid) (hs : s.CaptureInv)
    (running : s.mode = .run) (lacking : s.idx.toNat + samples.length = s.params.captureLen)
    (busy : s.busy = !samples.isEmpty) (inRange : ∀ v ∈ samples, s.params.SampleInRange v)
    (next : s.pending = samples.map .sample ++ rest) :
    ∃ t, Sys2Proof.core.run samples.length s = .next t ∧ t.busy = false ∧ t.idx.toNat = s.params.captureLen ∧
      t.mem.capbuf = s.mem.capbuf.take s.idx.toNat ++ samples ∧ t.mem.spec = s.mem.spec ∧
      t = { s with pending := rest, mem := t.mem, idx := t.idx, busy := t.busy } := by
  induction samples generalizing s with
  | nil =>
    have ⟨⟨length, _, _⟩, _⟩ := hs
    have complete : s.idx.toNat = s.mem.capbuf.length := lacking.trans length.symm
    have next : s.pending = rest := next
    subst next
    exact ⟨s, rfl, busy, lacking, by rw [complete]; simp, rfl, rfl⟩
  | cons v samples ih =>
    have room : s.idx.toNat < s.params.captureLen := hs.2.1 busy
    have first := step_sample_enabled next running busy room
    have ⟨⟨length, _, _⟩, _⟩ := hs
    have ⟨⟨_, _, width, _⟩, _⟩ := hp
    have counted : (storeSample v { s with pending := samples.map .sample ++ rest }).idx.toNat = s.idx.toNat + 1 :=
      storeSample_idx hp room v
    have lacking' : s.idx.toNat + 1 + samples.length = s.params.captureLen := by
      rw [List.length_cons] at lacking; omega
    have busy' : decide (s.idx.toNat + 1 ≠ s.params.captureLen) = !samples.isEmpty := by
      cases samples <;> simp at lacking' ⊢ <;> omega
    obtain ⟨t, answers, idle, full, capbuf, spec, frame⟩ :=
      ih (s := storeSample v { s with pending := samples.map .sample ++ rest }) hp
        ((effect_of_step first).captureInv hp hs) running (by rw [counted]; exact lacking') busy'
        (fun x hx => inRange x (List.mem_cons_of_mem v hx)) rfl
    refine ⟨t, (run_step first _).trans answers, idle, full, ?_, spec, frame⟩
    calc t.mem.capbuf
      _ = (s.mem.capbuf.set s.idx.toNat (sampleValue s.params v)).take (s.idx.toNat + 1) ++ samples := by
        rw [capbuf, counted]; rfl
      _ = s.mem.capbuf.take s.idx.toNat ++ v :: samples := by
        rw [take_succ_set _ (room.trans_eq length.symm),
          sampleValue_of_inRange _ v width (inRange v List.mem_cons_self), List.append_assoc, List.singleton_append]

/-- Settles O56: `run_samples` from a state with BUSY = 1, where the capture invariant says that a sample is lacking. -/
theorem captureCycleCompletes : Obligations.CaptureCycleCompletes := by
  intro s samples rest hp hs running busy lacking inRange next
  have room := hs.2.1 busy
  refine run_samples hp hs running lacking ?_ inRange next
  cases samples with
  | nil => exact absurd lacking room.ne
  | cons => exact busy

/-! The constants (spec/10_state.md R123, R138). -/

theorem Stereo.ext_get {α : Type} {p q : Stereo α} (h : ∀ c, p.get c = q.get c) : p = q := by
  cases p
  cases q
  exact congr (congrArg Stereo.mk (h .left)) (h .right)

/-- Settles O57: both states hold what the reset loads from the same parameters. -/
theorem constantsNeverChange : Obligations.ConstantsNeverChange := by
  intro s t answers hs
  have effect := effect_of_step answers
  have params := effect.params_eq
  have ⟨alpha, timeouts⟩ := hs
  obtain ⟨alpha', timeouts'⟩ := effect.constantInv hs
  refine ⟨params, Stereo.ext_get fun c => BitVec.eq_of_toNat_eq ?_, fun b => ?_⟩
  · rw [alpha', params, alpha]
  · rw [(timeouts' b).1, (timeouts' b).2, params, (timeouts b).1, (timeouts b).2]
    exact ⟨rfl, rfl⟩

/-! RESULT (spec/10_state.md R103). -/

theorem writesResult_of_isReadback {i : Instr} (h : isReadback i = true) : writesResult i = true := by
  cases i with
  | rdStat | rdSpec | rdLvl | rdCap | dbMap => rfl
  | nop | smpStart | smpNext | lvlRms | lvlFilt | lvlUpdate | fftRun | rndAct | rndRef | dbnStep | sysReset | sysHalt =>
    cases h

theorem CommandEffect.result_eq {i : Instr} {s t : State} (h : CommandEffect s (.ok i) t)
    (silent : writesResult i = false) : t.result = s.result := by
  cases h with
  | readback reads => exact absurd (writesResult_of_isReadback reads) (by simp [silent])
  | lvlRms | lvlFilt | lvlUpdate | dbnStep | sysReset => cases silent
  | _ => rfl

/-- Settles O58: no silent command has an effect that writes RESULT, and the two events have none. -/
theorem onlyNamedCommandsWriteResult : Obligations.OnlyNamedCommandsWriteResult := by
  refine ⟨fun i s t answers => (effect_of_exec answers).result_eq, fun s t move head answers event => ?_⟩
  obtain ⟨rest, hp⟩ := head?_pending head
  cases effect_of_step answers with
  | command next => obtain ⟨v, rfl⟩ | rfl := event <;> cases hp.symm.trans next
  | resetAsserted next => obtain ⟨v, rfl⟩ | rfl := event <;> cases hp.symm.trans next
  | _ => rfl

/-! The readback commands (spec/20_memory.md R206). -/

theorem exec_readback {i : Instr} {s : State} (reads : isReadback i = true) (gate : s.mode = .run ∨ i = .rdStat)
    (idle : usesCapture i = true → s.busy = false) : exec i s = .next (s.setResult (readout s i)) := by
  cases i with
  | rdStat => rfl
  | dbMap cells => exact congrArg _ (whenRunning_run (gate.resolve_right nofun) _)
  | rdSpec k => exact congrArg _ (whenRunning_run (gate.resolve_right nofun) _)
  | rdLvl f c => cases f <;> exact congrArg _ (whenRunning_run (gate.resolve_right nofun) _)
  | rdCap k => exact congrArg _ (captureGate_idle (gate.resolve_right nofun) (idle rfl) _)
  | nop | smpStart | smpNext | lvlRms | lvlFilt | lvlUpdate | fftRun | rndAct | rndRef | dbnStep | sysReset | sysHalt =>
    cases reads

/-- No readback command reads RESULT. -/
theorem readout_setResult (s : State) (v : Word32) (i : Instr) : readout (s.setResult v) i = readout s i := by
  cases i with
  | rdLvl f c => cases f <;> rfl
  | _ => rfl

/-- Settles O60: a readback command writes `readout`, which is the same again once RESULT holds it. -/
theorem readbacksAreIdempotent : Obligations.ReadbacksAreIdempotent := by
  intro i s t reads legal answers
  cases effect_of_exec answers with
  | skipped => exact ⟨rfl, answers⟩
  | readback _ gate idle =>
    refine ⟨rfl, ?_⟩
    rw [exec_readback (s := s.setResult (readout s i)) reads gate idle, readout_setResult]
    rfl
  | busyViolation running capture busy => exact absurd (busy.symm.trans (legal running capture)) nofun
  | notActive | nop | smpStart | smpNext | lvlRms | lvlFilt | lvlUpdate | fftRun | rndAct | fieldDrawn | phaseCounted
  | phaseEnded | dbnStep | sysReset | sysHalt => cases reads

end Sys2Proof.Machine
end

section
/-! PROOFS. The renderer over refreshes (spec/43_renderer.md R622-R625): how long a VU_LINES phase lasts, and where
glyphs are loaded. -/

namespace Sys2Proof.Machine

/-! The length of a phase (R623). -/

theorem exec_rndRef_vuLines {s : State} (running : s.mode = .run) (active : s.active = true)
    (style : s.meter = .vuLines) : exec .rndRef s = .next (refreshVul s) := by
  rw [exec_rndRef_active running active, refresh_vuLines style]

/-- From any refresh of a phase on: each counts until the last, which enters the next phase. -/
theorem execTimes_rndRef_vuLines {s : State} (n : Nat) (running : s.mode = .run) (active : s.active = true)
    (style : s.meter = .vuLines) (hp : s.params.Valid) (room : s.vcnt.toNat < phaseLength s.params s.vph) :
    (s.vcnt.toNat + n < phaseLength s.params s.vph →
      ∃ t, execTimes n .rndRef s = .next t ∧ t.vph = s.vph ∧ t.vcnt.toNat = s.vcnt.toNat + n) ∧
    (s.vcnt.toNat + n = phaseLength s.params s.vph →
      ∃ t, execTimes n .rndRef s = .next t ∧ t.vph = s.vph.next ∧ t.vcnt = 0) := by
  induction n generalizing s with
  | zero => exact ⟨fun _ => ⟨s, rfl, rfl, rfl⟩, fun ended => absurd ended room.ne⟩
  | succ n ih =>
    rw [execTimes_step (exec_rndRef_vuLines running active style)]
    by_cases last : s.vcnt.toNat + 1 = phaseLength s.params s.vph
    · refine ⟨fun within => by omega, fun ended => ?_⟩
      obtain rfl : n = 0 := by omega
      rw [refreshVul_last last]
      exact ⟨_, rfl, rfl, rfl⟩
    · have within : s.vcnt.toNat + 1 < phaseLength s.params s.vph := by omega
      have counted : (BitVec.ofNat 8 (s.vcnt.toNat + 1)).toNat = s.vcnt.toNat + 1 := by
        have := phaseLength_le hp s.vph
        exact (BitVec.toNat_ofNat _ _).trans (Nat.mod_eq_of_lt (by omega))
      rw [refreshVul_within within]
      have later := ih (s := (s.emit (phaseDrawOps s s.vph)).setPhase s.vph (.ofNat 8 (s.vcnt.toNat + 1)))
        running active style hp (counted.trans_lt within)
      simp only [State.setPhase_vcnt, State.setPhase_vph, State.setPhase_params, State.emit_params, counted,
        Nat.add_assoc, Nat.add_comm 1 n] at later
      exact later

/-- Settles O44: the count of a whole phase, from its first refresh. -/
theorem vuLinesPhaseLastsItsLength : Obligations.VuLinesPhaseLastsItsLength := by
  intro s n running active style hp first
  have zero : s.vcnt.toNat = 0 := by rw [first]; rfl
  have counts := execTimes_rndRef_vuLines n running active style hp (zero.trans_lt (phaseLength_pos hp _))
  simpa only [zero, Nat.zero_add] using counts

/-! Where glyphs are loaded (R625). -/

/-- The refresh from s to t enters a blank phase. -/
abbrev EntersBlank (s t : State) : Prop :=
  s.meter = .vuLines ∧ t.vph ≠ s.vph ∧ (t.vph = .blankA ∨ t.vph = .blankB)

/-- Operations without a glyph load, and with no more than one field of at most max(FFTV_CELLS, 10) characters. -/
structure PlainOutput (p : Params) (ops : List DisplayOp) : Prop where
  noGlyph : ∀ op ∈ ops, op.isGlyph = false
  cursors : ops.countP DisplayOp.isCursor ≤ 1
  chars : ops.countP DisplayOp.isChar ≤ max p.fftCells 10

theorem plainOutput_nil (p : Params) : PlainOutput p [] := ⟨nofun, Nat.zero_le _, Nat.zero_le _⟩

theorem plainOutput_fieldOps {p : Params} {codes : List CharCode} (h : codes.length ≤ max p.fftCells 10) :
    PlainOutput p (fieldOps p codes) :=
  ⟨fieldOps_no_glyph p codes, (fieldOps_countP_isCursor p codes).le, (fieldOps_countP_isChar p codes).trans_le h⟩

/-- In a VU_LINES phase a bar of ten cells is drawn, or nothing (R622). -/
theorem plainOutput_phaseDrawOps (s : State) (f : Phase) : PlainOutput s.params (phaseDrawOps s f) := by
  cases f with
  | blankA | blankB => exact plainOutput_nil _
  | drawLeft | drawRight => exact plainOutput_fieldOps (by simp)

/-- The bar and the blank field of a refresh that enters a blank phase (log 13). -/
theorem countP_two_fields {p : Params} {codes : List CharCode} (h : codes.length = 10) (set : List GlyphBits) :
    (fieldOps p codes ++ (blankField p ++ loadSet set)).countP DisplayOp.isCursor = 2 ∧
      (fieldOps p codes ++ (blankField p ++ loadSet set)).countP DisplayOp.isChar = 20 := by
  simp [blankField, loadSet, h, vulCells]

/-- What a command appends to DOUT, as R625 sorts it. -/
structure GlyphRule (i : Instr) (s t : State) (ops : List DisplayOp) : Prop where
  appended : t.dout = s.dout ++ ops
  glyph : (∃ op ∈ ops, op.isGlyph = true) → (∃ n, i = .rndAct n) ∨ (i = .rndRef ∧ EntersBlank s t)
  refresh : i = .rndRef →
    if EntersBlank s t then ops.countP DisplayOp.isCursor = 2 ∧ ops.countP DisplayOp.isChar = 20
    else ops.countP DisplayOp.isCursor ≤ 1 ∧ ops.countP DisplayOp.isChar ≤ max s.params.fftCells 10

theorem GlyphRule.of_plain {i : Instr} {s t : State} {ops : List DisplayOp} (appended : t.dout = s.dout ++ ops)
    (plain : PlainOutput s.params ops) (notBlank : i = .rndRef → ¬ EntersBlank s t) : GlyphRule i s t ops where
  appended := appended
  glyph := fun ⟨op, mem, glyph⟩ => absurd (glyph.symm.trans (plain.noGlyph op mem)) nofun
  refresh refreshes := by
    rw [if_neg (notBlank refreshes)]
    exact ⟨plain.cursors, plain.chars⟩

theorem GlyphRule.of_entersBlank {s t : State} {ops : List DisplayOp} (appended : t.dout = s.dout ++ ops)
    (blank : EntersBlank s t) (counts : ops.countP DisplayOp.isCursor = 2 ∧ ops.countP DisplayOp.isChar = 20) :
    GlyphRule .rndRef s t ops where
  appended := appended
  glyph _ := .inr ⟨rfl, blank⟩
  refresh _ := by rwa [if_pos blank]

/-- The end of a phase: the two draw phases lead to a blank one, the two blank ones to a draw phase (R622, R623). -/
theorem glyphRule_phaseEnded {s : State} (style : s.meter = .vuLines) :
    GlyphRule .rndRef s
      (((s.emit (phaseDrawOps s s.vph)).setPhase s.vph.next 0).emit (phaseEntryOps s.params s.vph.next))
      (phaseDrawOps s s.vph ++ phaseEntryOps s.params s.vph.next) := by
  have appended := List.append_assoc s.dout (phaseDrawOps s s.vph) (phaseEntryOps s.params s.vph.next)
  cases phase : s.vph with
  | blankA | blankB =>
    rw [phase] at appended
    refine .of_plain appended (plainOutput_nil _) fun _ ⟨_, _, blank⟩ => ?_
    rcases blank with blank | blank <;> cases blank
  | drawLeft =>
    rw [phase] at appended
    exact .of_entersBlank appended ⟨style, by rw [phase]; nofun, .inr rfl⟩ (countP_two_fields (vubar_length _ _) _)
  | drawRight =>
    rw [phase] at appended
    exact .of_entersBlank appended ⟨style, by rw [phase]; nofun, .inl rfl⟩ (countP_two_fields (vubar_length _ _) _)

theorem CommandEffect.glyphRule {i : Instr} {s t : State} (h : CommandEffect s (.ok i) t) :
    ∃ ops, GlyphRule i s t ops := by
  cases h with
  | rndAct => exact ⟨_, rfl, fun _ => .inl ⟨_, rfl⟩, nofun⟩
  | fieldDrawn _ _ style length =>
    exact ⟨_, .of_plain rfl (plainOutput_fieldOps length) fun _ blank => style blank.1⟩
  | phaseCounted => exact ⟨_, .of_plain rfl (plainOutput_phaseDrawOps s s.vph) fun _ blank => blank.2.1 rfl⟩
  | phaseEnded _ _ style => exact ⟨_, glyphRule_phaseEnded style⟩
  | sysHalt =>
    have noGlyph : ∀ op ∈ diagnosticOps s.params, op.isGlyph = false := by
      simp [diagnosticOps, DisplayOp.isGlyph]
    exact ⟨diagnosticOps s.params, rfl, fun ⟨op, mem, glyph⟩ => absurd (glyph.symm.trans (noGlyph op mem)) nofun, nofun⟩
  | sysReset => exact ⟨[], .of_plain (List.append_nil _).symm (plainOutput_nil _) nofun⟩
  | _ => exact ⟨[], .of_plain (List.append_nil _).symm (plainOutput_nil _) fun _ blank => blank.2.1 rfl⟩

/-- Settles O46: RND.ACT and the entry of a blank phase apart, every effect appends plain output or none. -/
theorem glyphsLoadOnlyOnActivationOrBlankEntry : Obligations.GlyphsLoadOnlyOnActivationOrBlankEntry := by
  intro i s t answers
  obtain ⟨ops, appended, glyph, refresh⟩ := (effect_of_exec answers).glyphRule
  exact ⟨ops, appended, glyph, refresh⟩

end Sys2Proof.Machine
end

section
/-! PROOFS. Over many calls and values: the dB map as a function of the value (spec/42_level.md R504), the filter under
one input (R503), and the debouncer under a held input (spec/44_debounce.md R706). -/

namespace Sys2Proof.Machine

/-! The dB map (R504). -/

/-- A larger value passes fewer thresholds. -/
theorem dbScan_mono (p : Params) {value value' : Nat} (h : value ≤ value') (stride cnt i : Nat) :
    dbScan p value stride cnt i ≤ dbScan p value' stride cnt i := by
  induction cnt generalizing i with
  | zero => exact le_rfl
  | succ cnt ih =>
    by_cases reached : dbtAt p i ≤ value
    · rw [dbScan, dbScan, if_pos reached, if_pos (reached.trans h)]
    · rw [dbScan, if_neg reached]
      by_cases reached' : dbtAt p i ≤ value'
      · rw [dbScan, if_pos reached']
        exact (dbScan_le _ _ _ _ _).trans (Nat.le_succ cnt)
      · rw [dbScan, if_neg reached']
        exact ih _

/-- The scan is full exactly where it stops at its first threshold. -/
theorem dbScan_eq_full_iff (p : Params) (value stride i : Nat) {cnt : Nat} (h : 0 < cnt) :
    dbScan p value stride cnt i = cnt ↔ dbtAt p i ≤ value := by
  obtain ⟨cnt, rfl⟩ := Nat.exists_eq_succ_of_ne_zero h.ne'
  rw [dbScan]
  split
  · next reached => exact iff_of_true rfl reached
  · next above => exact iff_of_false (by have := dbScan_le p value stride cnt (i + stride); omega) above

/-- Settles O34: the scan for a supported cell count, 0 for any other. -/
theorem dbmapIsMonotoneAndBounded : Obligations.DbmapIsMonotoneAndBounded := by
  intro p value value' cells h
  by_cases supported : cells ∈ Config.cellSet
  · simp only [dbmap_supported supported]
    have positive : ∀ n ∈ Config.cellSet, 0 < n := by decide
    exact ⟨dbScan_mono p h _ _ _, dbScan_le _ _ _ _ _, fun _ => dbScan_eq_full_iff _ _ _ _ (positive cells supported)⟩
  · simp only [dbmap_unsupported supported]
    exact ⟨le_rfl, Nat.zero_le _, fun hc => absurd hc supported⟩

/-! The filter (R503). -/

/-- A move of R501 stays between the old output and the input, and from an equal output it does not move. -/
theorem FilterMoves.between {round : LpfRound} {alpha raw out new : Nat} (h : FilterMoves round alpha raw out new)
    (ha : alpha < 1000) : min raw out ≤ new ∧ new ≤ max raw out ∧ (raw = out → new = out) := by
  obtain ⟨same, up, down⟩ := filterMoves_iff.mp h
  have stepUp := filterStep_le round (raw - out) ha
  have stepDown := filterStep_le round (out - raw) ha
  omega

/-- The rounded-up step of a positive distance is positive. -/
theorem filterStep_away_pos {d alpha : Nat} (hd : 0 < d) (ha : 0 < alpha) : 0 < filterStep .away (d * alpha) := by
  have : 0 < d * alpha := Nat.mul_pos hd ha
  simp only [filterStep]
  omega

/-- With LPF_ROUND = AWAY a move from an output other than the input comes closer to it. -/
theorem FilterMoves.closer {alpha raw out new : Nat} (h : FilterMoves .away alpha raw out new) (positive : 0 < alpha)
    (ha : alpha < 1000) (apart : raw ≠ out) :
    ((raw : Int) - new).natAbs < ((raw : Int) - out).natAbs := by
  obtain ⟨-, up, down⟩ := filterMoves_iff.mp h
  rcases Nat.lt_or_gt_of_ne apart with above | below
  · have step := filterStep_le .away (out - raw) ha
    have moves := filterStep_away_pos (Nat.sub_pos_of_lt above) positive
    omega
  · have step := filterStep_le .away (raw - out) ha
    have moves := filterStep_away_pos (Nat.sub_pos_of_lt below) positive
    omega

theorem exec_lvlFilt {s : State} (c : Channel) (running : s.mode = .run) :
    exec (.lvlFilt c) s = .next (filterChannel c s.argNat s) := congrArg _ (whenRunning_run running _)

theorem filterChannel_lpf (c : Channel) (raw : Nat) (s : State) :
    (filterChannel c raw s).lpf.get c = filtered s c raw := Stereo.get_set_same _ _ _

/-- Settles O37: the register takes a move of R501 toward ARG. -/
theorem filterNeverOvershoots : Obligations.FilterNeverOvershoots := by
  intro s t c running ha answers
  cases (exec_lvlFilt c running).symm.trans answers
  obtain ⟨lower, upper, same⟩ := (filtered_moves ha s.arg.isLt).between ha
  rw [filterChannel_lpf]
  exact ⟨lower, upper, fun equal => BitVec.eq_of_toNat_eq (same (congrArg BitVec.toNat equal))⟩

/-- Settles O38: by induction on the distance, which every update at another output than ARG makes smaller. -/
theorem filterConvergesToConstantInput : Obligations.FilterConvergesToConstantInput := by
  intro s c running away positive ha
  induction distance : ((s.arg.toNat : Int) - (s.lpf.get c).toNat).natAbs
    using Nat.strong_induction_on generalizing s with
  | _ d ih =>
    by_cases reached : s.lpf.get c = s.arg
    · exact ⟨0, s, Nat.zero_le _, rfl, reached⟩
    · have apart : s.arg.toNat ≠ (s.lpf.get c).toNat := fun equal => reached (BitVec.eq_of_toNat_eq equal.symm)
      have moves := filtered_moves (c := c) ha s.arg.isLt
      rw [away] at moves
      have closer := moves.closer positive ha apart
      rw [← filterChannel_lpf, distance] at closer
      obtain ⟨n, t, steps, answers, arrived⟩ :=
        ih _ closer (s := filterChannel c s.argNat s) running away positive ha rfl
      exact ⟨n + 1, t, by omega, (execTimes_step (exec_lvlFilt c running) n).trans answers, arrived⟩

/-! The debouncer (spec/44_debounce.md R706). -/

/-- A change that is seen before the timeout leaves the timer running from its start. -/
theorem Debouncer.step_before_timeout {d : Debouncer} {lg : Bool} {now : Word32} (changed : lg ≠ d.stable)
    (early : (now - d.start now).toNat < d.timeout lg) :
    d.step lg now = { d with armed := true, ts := d.start now } := by
  obtain ⟨same, -⟩ | ⟨-, elapsed, -⟩ | ⟨-, -, after⟩ := d.step_cases lg now
  · exact absurd same changed
  · exact absurd elapsed early.not_ge
  · exact after

theorem Debouncer.step_at_timeout {d : Debouncer} {lg : Bool} {now : Word32} (changed : lg ≠ d.stable)
    (elapsed : d.timeout lg ≤ (now - d.start now).toNat) :
    d.step lg now = { d with stable := lg, armed := false, ts := 0 } := by
  obtain ⟨same, -⟩ | ⟨-, -, after⟩ | ⟨-, early, -⟩ := d.step_cases lg now
  · exact absurd same changed
  · exact after
  · exact absurd elapsed early

/-- A running debouncer is left as it is by every call before the timeout. -/
theorem Debouncer.foldl_before_timeout {d : Debouncer} {lg : Bool} {times : List Word32} (changed : lg ≠ d.stable)
    (armed : d.armed = true) (early : ∀ x ∈ times, (x - d.ts).toNat < d.timeout lg) :
    times.foldl (fun d x => d.step lg x) d = d := by
  induction times with
  | nil => rfl
  | cons x times ih =>
    have start : d.start x = d.ts := if_pos armed
    have kept : d.step lg x = d := by
      rw [Debouncer.step_before_timeout changed (by rw [start]; exact early x List.mem_cons_self), start, ← armed]
    rw [List.foldl_cons, kept]
    exact ih fun y hy => early y (List.mem_cons_of_mem x hy)

/-- Settles O48: the first call starts the timer at t0, those before the timeout leave it, and the last accepts. -/
theorem debounceAcceptsExactlyAtTimeout : Obligations.DebounceAcceptsExactlyAtTimeout := by
  intro d lg t0 now times changed idle positive early elapsed held
  have start : d.start t0 = t0 := if_neg (by simp [idle])
  have first : d.step lg t0 = { d with armed := true, ts := t0 } := by
    have now0 : (t0 - d.start t0).toNat < d.timeout lg := by simpa [start] using positive
    rw [Debouncer.step_before_timeout changed now0, start]
  have running : held = { d with armed := true, ts := t0 } := by
    dsimp only [held]
    rw [List.foldl_cons, first]
    exact Debouncer.foldl_before_timeout changed rfl early
  rw [running]
  exact ⟨rfl, rfl, rfl, congrArg Debouncer.stable
    (Debouncer.step_at_timeout (d := { d with armed := true, ts := t0 }) changed elapsed)⟩

end Sys2Proof.Machine
end

section
/-! PROOFS. The reference transform (spec/41_spectral.md R451, R453) on the two buffers whose transform is known in
closed form, and FFT.RUN twice. The cosines enter only by their first value and by their symmetry: half a turn on, the
sign changes. -/

namespace Sys2Proof.Machine

/-- Settles O26: FFT.RUN reads CAPBUF and writes SPEC, so the second run writes the same bins again. -/
theorem fftRunIsRepeatable : Obligations.FftRunIsRepeatable := by
  intro s running idle
  exact ⟨s.setSpec (spectrumBins s.params s.captured), congrArg _ (captureGate_idle running idle _),
    spectrumBins_zero _ _,
    congrArg _ (captureGate_idle (s := s.setSpec (spectrumBins s.params s.captured)) running idle _)⟩

/-! The power of a bin as a sum over the autocorrelation. -/

theorem scaledPower_eq_sum (n : Nat) (quarter : List Int) (k d : Nat) (corr : List Int) :
    scaledPower n quarter k d corr =
      ∑ j ∈ Finset.range corr.length, corr.getD j 0 * cosineAt n quarter (k * (d + j) % n) := by
  induction corr generalizing d with
  | nil => rfl
  | cons r corr ih =>
    rw [scaledPower, ih, List.length_cons, Finset.sum_range_succ', add_comm]
    congr 1
    exact Finset.sum_congr rfl fun j _ => by rw [List.getD_cons_succ, Nat.add_assoc, Nat.add_comm 1 j]

theorem fftMagnitudes_reference {p : Params} (h : p.fftMag = .reference) (xs : List Int) {k : Nat}
    (hk : k < p.binCount) : (fftMagnitudes p xs).getD k 0 =
      referenceBin p.log2N (quarterCosines (cosinePrecision p.log2N) p.log2N) (autocorrelation xs) k := by
  simp only [fftMagnitudes, h, referenceMagnitudes]
  rw [List.getD_eq_getElem _ _ (by simpa using hk), List.getElem_map, List.getElem_range]

/-! The cosines (R451). -/

theorem cosineAt_zero {n : Nat} (hn : 4 ≤ n) (quarter : List Int) : cosineAt n quarter 0 = quarter.getD 0 0 := by
  have inFirstQuarter : 0 < n / 4 := by omega
  simp [cosineAt, inFirstQuarter]

/-- Half a turn changes the sign. -/
theorem cosineAt_half_turn {n e : Nat} (hn : 4 ∣ n) (he : e < n / 2) (quarter : List Int) :
    cosineAt n quarter (e + n / 2) = -cosineAt n quarter e := by
  obtain ⟨q, rfl⟩ := hn
  have half : 4 * q / 2 = 2 * q := by omega
  have fourth : 4 * q / 4 = q := by omega
  simp only [cosineAt, half, fourth] at he ⊢
  obtain rfl | positive := Nat.eq_zero_or_pos e
  · have : 0 < q := by omega
    simp [this, show ¬2 * q < q by omega, show q < 2 * q by omega]
  · rw [if_pos (by omega : 2 * q < e + 2 * q), if_neg (by omega : ¬2 * q < e),
      show 4 * q - (e + 2 * q) = 2 * q - e by omega]
    obtain below | rfl | above := Nat.lt_trichotomy e q
    · rw [if_neg (by omega), if_pos (by omega), if_pos below, show 2 * q - (2 * q - e) = e by omega]
    · rw [if_neg (by omega), if_neg (by omega), if_neg (by omega), if_neg (by omega), Int.neg_zero]
    · rw [if_pos (by omega), if_neg (by omega), if_pos (by omega), Int.neg_neg]

/-- The same along the multiples of k, if h steps of k make an odd number of half turns. -/
theorem cosineAt_antiperiodic {n k h : Nat} (hn : 4 ∣ n) (pos : 0 < n) (odd : k * h % n = n / 2) (quarter : List Int)
    (d : Nat) : cosineAt n quarter (k * (d + h) % n) = -cosineAt n quarter (k * d % n) := by
  have shifted : k * (d + h) % n = (k * d % n + n / 2) % n := by
    rw [Nat.mul_add, Nat.add_mod, odd]
  have turn := Nat.mod_lt (k * d) pos
  rw [shifted]
  obtain lower | upper := Nat.lt_or_ge (k * d % n) (n / 2)
  · rw [Nat.mod_eq_of_lt (by omega), cosineAt_half_turn hn lower]
  · obtain ⟨e, he⟩ := Nat.exists_eq_add_of_le' upper
    rw [he] at turn ⊢
    rw [show e + n / 2 + n / 2 = e + n by omega, Nat.add_mod_right, Nat.mod_eq_of_lt (by omega),
      cosineAt_half_turn hn (by omega), Int.neg_neg]

/-- Over whole periods of 2h the values of a function that changes sign every h steps cancel. -/
theorem sum_antiperiodic {f : Nat → Int} {h : Nat} (anti : ∀ d, f (d + h) = -f d) (periods : Nat) :
    ∑ d ∈ Finset.range (periods * (2 * h)), f d = 0 := by
  induction periods with
  | zero => simp
  | succ periods ih =>
    rw [Nat.succ_mul, Finset.sum_range_add, ih, Nat.two_mul, Finset.sum_range_add]
    simp only [← Nat.add_assoc, Nat.add_right_comm _ h, anti, Finset.sum_neg_distrib]
    ring

/-- The steps of a bin that make an odd number of half turns, and that N is a multiple of two times them. -/
theorem exists_half_turn {m k : Nat} (hk : 0 < k) (hkm : k < 2 ^ (m - 1)) :
    ∃ h periods, k * h % 2 ^ m = 2 ^ m / 2 ∧ 2 ^ m = periods * (2 * h) := by
  obtain ⟨j, o, ⟨q, rfl⟩, rfl⟩ := Nat.exists_eq_two_pow_mul_odd hk.ne'
  have low : 2 ^ j < 2 ^ (m - 1) := lt_of_le_of_lt (Nat.le_mul_of_pos_right _ (by omega)) hkm
  have hj : j < m - 1 := (Nat.pow_lt_pow_iff_right (by decide)).mp low
  have half : 2 ^ m = 2 * 2 ^ (m - 1) := (mul_pow_sub_one (by omega) 2).symm
  have split : 2 ^ j * 2 ^ (m - 1 - j) = 2 ^ (m - 1) := by rw [← pow_add]; congr 1; omega
  refine ⟨2 ^ (m - 1 - j), 2 ^ j, ?_, ?_⟩
  · have turns : 2 ^ j * (2 * q + 1) * 2 ^ (m - 1 - j) = 2 ^ (m - 1) + 2 ^ m * q := by
      rw [half, ← split]; ring
    rw [turns, Nat.add_mul_mod_self_left]
    have := Nat.two_pow_pos (m - 1)
    rw [half, Nat.mod_eq_of_lt (by omega)]
    omega
  · rw [half, ← split]; ring

/-! The circular autocorrelation (R451). -/

theorem dot_eq_sum (xs ys : List Int) :
    dot xs ys = ∑ i ∈ Finset.range xs.length, xs.getD i 0 * ys.getD i 0 := by
  induction xs generalizing ys with
  | nil => cases ys <;> rfl
  | cons x xs ih =>
    cases ys with
    | nil => simp [dot]
    | cons y ys => rw [dot, ih, List.length_cons, Finset.sum_range_succ', add_comm]; rfl

theorem length_autocorrelation (xs : List Int) : (autocorrelation xs).length = xs.length := by
  simp [autocorrelation]

theorem autocorrelation_getD {xs : List Int} {d : Nat} (hd : d < xs.length) :
    (autocorrelation xs).getD d 0 =
      ∑ i ∈ Finset.range xs.length, xs.getD i 0 * xs.getD ((i + d) % xs.length) 0 := by
  rw [List.getD_eq_getElem _ _ (by rwa [length_autocorrelation])]
  simp only [autocorrelation, List.getElem_map, List.getElem_range]
  rw [← List.rotate_eq_drop_append_take hd.le, dot_eq_sum]
  refine Finset.sum_congr rfl fun i hi => ?_
  have inside : i < (xs.rotate d).length := by simpa using hi
  have wraps : (i + d) % xs.length < xs.length := Nat.mod_lt _ (Nat.zero_lt_of_lt hd)
  rw [List.getD_eq_getElem _ _ inside, List.getElem_rotate, List.getD_eq_getElem _ _ wraps]

/-! The two closed forms. -/

theorem referenceBin_eq (m : Nat) (quarter corr : List Int) (k : Nat) {square : Nat}
    (h : scaledPower (2 ^ m) quarter k 0 corr = square * (2 * 2 ^ cosinePrecision m)) :
    referenceBin m quarter corr k = isqrt square := by
  rw [referenceBin, h, Int.mul_ediv_cancel _ (by positivity), Int.toNat_natCast]

/-- The cosines at the multiples of a bin between 0 and N/2 add up to 0. -/
theorem sum_cosines {m k : Nat} (hm : 2 ≤ m) (hk : 0 < k) (bin : k < 2 ^ (m - 1)) (quarter : List Int) :
    ∑ j ∈ Finset.range (2 ^ m), cosineAt (2 ^ m) quarter (k * j % 2 ^ m) = 0 := by
  obtain ⟨h, periods, odd, whole⟩ := exists_half_turn hk bin
  have anti := cosineAt_antiperiodic (pow_dvd_pow 2 hm) (Nat.two_pow_pos m) odd quarter
  calc ∑ j ∈ Finset.range (2 ^ m), cosineAt (2 ^ m) quarter (k * j % 2 ^ m)
    _ = ∑ j ∈ Finset.range (periods * (2 * h)), cosineAt (2 ^ m) quarter (k * j % 2 ^ m) := by rw [← whole]
    _ = 0 := sum_antiperiodic anti periods

/-- The autocorrelation of a constant is constant. -/
theorem autocorrelation_replicate {n d : Nat} (hd : d < n) (v : Int) :
    (autocorrelation (List.replicate n v)).getD d 0 = n * (v * v) := by
  have sample : ∀ i < n, (List.replicate n v).getD i 0 = v := by
    intro i hi
    rw [List.getD_eq_getElem _ _ (by simpa using hi), List.getElem_replicate]
  rw [autocorrelation_getD (by simpa using hd), List.length_replicate]
  calc ∑ i ∈ Finset.range n, (List.replicate n v).getD i 0 * (List.replicate n v).getD ((i + d) % n) 0
    _ = ∑ _i ∈ Finset.range n, v * v := Finset.sum_congr rfl fun i hi => by
      rw [sample i (Finset.mem_range.mp hi), sample _ (Nat.mod_lt _ (Nat.zero_lt_of_lt hd))]
    _ = n * (v * v) := by rw [Finset.sum_const, Finset.card_range, nsmul_eq_mul]

/-- Settles O28: the autocorrelation is constant, so the power of a bin is that constant times the sum of the
cosines. -/
theorem referenceConstantHasNoBins : Obligations.ReferenceConstantHasNoBins := by
  intro p v k hp reference hk bin
  have ⟨⟨shortest, _⟩, _⟩ := hp
  have half : k < 2 ^ (p.log2N - 1) := by
    rw [Params.binCount, Params.captureLen, ← mul_pow_sub_one (by omega) 2] at bin
    omega
  rw [fftMagnitudes_reference reference _ bin, referenceBin_eq (square := 0)]
  · exact isqrt_mul_self 0
  rw [scaledPower_eq_sum, length_autocorrelation, List.length_replicate]
  calc ∑ j ∈ Finset.range p.captureLen, (autocorrelation (List.replicate p.captureLen v)).getD j 0 *
        cosineAt (2 ^ p.log2N) _ (k * (0 + j) % 2 ^ p.log2N)
    _ = ∑ j ∈ Finset.range p.captureLen, p.captureLen * (v * v) * cosineAt (2 ^ p.log2N) _ (k * j % 2 ^ p.log2N) :=
      Finset.sum_congr rfl fun j hj => by rw [autocorrelation_replicate (Finset.mem_range.mp hj), Nat.zero_add]
    _ = 0 := by rw [← Finset.mul_sum, Params.captureLen, sum_cosines (by omega) hk half, mul_zero]
    _ = _ := by simp

theorem impulse_getD {len n : Nat} (hn : n < len) (v : Int) (i : Nat) :
    ((List.replicate len 0).set n v).getD i 0 = if i = n then v else 0 := by
  by_cases same : i = n
  · subst same
    simp [hn]
  · have other : n ≠ i := Ne.symm same
    simp [List.getElem?_set_ne other, same, List.getD_eq_getElem?_getD]

/-- The autocorrelation of an impulse is an impulse at 0. -/
theorem autocorrelation_impulse {len n d : Nat} (hn : n < len) (hd : d < len) (v : Int) :
    (autocorrelation ((List.replicate len 0).set n v)).getD d 0 = if d = 0 then v * v else 0 := by
  have back : (n + d) % len = n ↔ d = 0 := by
    obtain inside | wraps := Nat.lt_or_ge (n + d) len
    · rw [Nat.mod_eq_of_lt inside]; omega
    · rw [Nat.mod_eq_sub_mod wraps, Nat.mod_eq_of_lt (by omega)]; omega
  rw [autocorrelation_getD (by simpa using hd)]
  simp only [impulse_getD hn, List.length_set, List.length_replicate]
  rw [Finset.sum_eq_single_of_mem n (Finset.mem_range.mpr hn) fun i _ other => by rw [if_neg other, zero_mul]]
  simp only [if_true, back, mul_ite, mul_zero]

/-- Settles O27: the autocorrelation leaves one summand, at the cosine of 0. -/
theorem referenceImpulseIsFlat : Obligations.ReferenceImpulseIsFlat := by
  intro p v n k hp reference hn bin
  have ⟨longEnough, _⟩ := captureLen_bounds hp
  rw [fftMagnitudes_reference reference _ bin, referenceBin_eq (square := v.natAbs * v.natAbs)]
  · exact isqrt_mul_self _
  rw [scaledPower_eq_sum, length_autocorrelation, List.length_set, List.length_replicate]
  calc ∑ j ∈ Finset.range p.captureLen, (autocorrelation ((List.replicate p.captureLen 0).set n v)).getD j 0 *
        cosineAt (2 ^ p.log2N) _ (k * (0 + j) % 2 ^ p.log2N)
    _ = v * v * cosineAt p.captureLen (quarterCosines (cosinePrecision p.log2N) p.log2N) 0 := by
      rw [Finset.sum_eq_single_of_mem 0 (Finset.mem_range.mpr (by omega)) fun j hj other => by
        rw [autocorrelation_impulse hn (Finset.mem_range.mp hj), if_neg other, zero_mul]]
      rw [autocorrelation_impulse hn (by omega), if_pos rfl, Nat.add_zero, Nat.mul_zero, Nat.zero_mod]
      rfl
    _ = v * v * (2 * 2 ^ cosinePrecision p.log2N) := by rw [cosineAt_zero (by omega)]; rfl
    _ = _ := by push_cast; rw [abs_mul_abs_self]

end Sys2Proof.Machine
end
